-- ==== Sys2Proof/Word.lean ====
section
/-! DEFINITION. The widths of the block's buses and fields (30_encoding.md rules R60, R61, R67; 00_scope.md rule R13). -/

namespace Sys2Proof

/-- A payload byte: `u8` (30_encoding.md rule R67). -/
abbrev Byte := BitVec 8

/-- One 32-bit operand field of the request bus, before it is read as `s32` or `u32` (30_encoding.md rule R61). -/
abbrev Field32 := BitVec 32

/-- The request bus `REQ[287:0]` (30_encoding.md rules R60 and R61). -/
abbrev Request := BitVec 288

/-- The response bus `RSP[79:0]` (30_encoding.md rules R60 and R67). -/
abbrev RspWord := BitVec 80

end Sys2Proof
end

