-- ==== Sys2Proof/Config.lean ====
section
/-! DEFINITION. The implementation parameters of 00_scope.md rule R6, and the one value the spec leaves open. -/

namespace Sys2Proof

/-- The parameter `ROUNDING`: what `round` does with a tie (00_scope.md rules R6 and R10). -/
inductive Rounding where
  | halfEven
  | halfAway
deriving DecidableEq, Repr

/-- The static parameters of a block, fixed for the whole run (00_scope.md rule R6, 70_reset_and_hazards.md rule
R234). `strictFields` and `rounding` are the inputs `CFG_STRICT_FIELDS` and `CFG_ROUNDING` of 30_encoding.md rule R60.
`LATENCY` is no field: a model has no clock (70_reset_and_hazards.md rule R237; log entry 3). `OPCODE(name)` is no
field: only the framer outside the block uses it (92_eei_decisions.md D26). -/
structure Params where
  strictFields : Bool
  rounding : Rounding
  maxOutstanding : Nat
deriving DecidableEq, Repr

/-- The values this spec gives the parameters (00_scope.md rule R6). -/
def Params.specValue : Params :=
  { strictFields := true, rounding := .halfEven, maxOutstanding := 1 }

/-- `MAX_OUTSTANDING` is a natural number of at least 1 (00_scope.md rule R6). -/
abbrev Params.legal (p : Params) : Prop := 1 ≤ p.maxOutstanding

/-- DESIGN CHOICE (log entry 1): the 80 bits on `RSP` once `RSP_VALID` has fallen outside reset. 10_state.md rule R27
states `RSP` only while `RSP_VALID = 1` and at reset, so the value is free: it has no body, and the n-th fall of
`RSP_VALID` leaves the n-th value. -/
opaque Config.idleRsp : Nat → RspWord

end Sys2Proof
end

