-- ==== Sys2Proof/Syntax.lean ====
section
/-! DEFINITION. The ten operations of the block with the operands each one reads (30_encoding.md rules R65 and R71). -/

namespace Sys2Proof

/-- The two fields of a rational operand port `Qk`, as numbers: `num` is `int(Qk.NUM)`, `den` is `Qk.DEN`
(30_encoding.md rule R64). The pair is kept unreduced, and `den` may be 0. -/
structure RatPort where
  num : Int
  den : Nat
deriving DecidableEq, Repr

/-- One constructor for each row of the operation table. An operation carries exactly the fields 30_encoding.md rule
R65 marks for it, as the numbers 00_scope.md rules R8 and R13 say they are; fields it does not read are no part of it
(rule R66). -/
inductive Instr where
  | oneByte (v : Int)
  | twoByte (v : Int)
  | signedAngleByte (angle : Int)
  | color (red green blue : RatPort)
  | stop
  | drive (speed : Int)
  | spin (speed : Int)
  | turn (degrees : Int) (speedDps : RatPort)
  | move (distanceMm : Int) (speedMmps : RatPort) (noTurn : Bool)
  | packMove (distanceMm degrees : Int) (seconds : RatPort) (modeByte : Nat)
deriving DecidableEq, Repr

end Sys2Proof
end

