-- ==== Sys2Proof/Machine/Operands.lean ====
section
/-! DEFINITION. Operand values and the exact arithmetic on them (00_scope.md rules R8 to R11, 30_encoding.md rule R64,
43_motion_pack.md rules R151 and R153). -/

namespace Sys2Proof.Machine

/-- `rat(Qk)`: the rational a port denotes, where its denominator is not 0 (30_encoding.md rule R64). -/
def portValue (q : RatPort) : Rat := (q.num : Rat) / (q.den : Rat)

/-- `clamp(x, lo, hi)` (00_scope.md rule R8). -/
def clamp (x lo hi : Int) : Int := max lo (min hi x)

/-- `|x|` on rationals (00_scope.md rule R8). -/
def ratAbs (x : Rat) : Rat := if x < 0 then -x else x

/-- `x & m` on the infinite two's-complement form of `x`, for a mask of at most 16 bits: `(x mod 2^16) & m`
(00_scope.md rule R9; every mask of the spec is below 2^16). -/
def andMask (x : Int) (m : BitVec 16) : Nat := (BitVec.ofInt 16 x &&& m).toNat

/-- Which of the two neighbours a tie half-way above `floor` goes to (00_scope.md rule R10): the even one, or the one
farther from zero. -/
def roundTie (mode : Rounding) (floor : Int) : Int :=
  match mode with
  | .halfEven => if floor % 2 = 0 then floor else floor + 1
  | .halfAway => if floor < 0 then floor else floor + 1

/-- `round(x)`: the nearest integer, a tie as `ROUNDING` says (00_scope.md rule R10). -/
def roundRat (mode : Rounding) (x : Rat) : Int :=
  let floor := x.floor
  let rest := x - (floor : Rat)
  if rest < 1 / 2 then floor
  else if 1 / 2 < rest then floor + 1
  else roundTie mode floor

/-- A rational so near to π (within 10^-40) that `round(d × 5π / 9)` is the same with it for every 32-bit `d`: the
route 93_implementation_defined.md I5 allows a model without real π (log entry 4). -/
def piRational : Rat := 31415926535897932384626433832795028841971 / 10000000000000000000000000000000000000000

/-- `centirad(d) = round(d × 5π / 9)` (43_motion_pack.md rule R151, 00_scope.md rule R11). No tie occurs for `d ≠ 0`, so
the tie rule named here never applies. -/
def centirad (d : Int) : Int := roundRat .halfEven ((d : Rat) * 5 * piRational / 9)

/-- `time_measure(seconds) = round(seconds × 1000)`, in milliseconds (43_motion_pack.md rule R153). -/
def timeMeasure (mode : Rounding) (seconds : Rat) : Int := roundRat mode (seconds * 1000)

end Sys2Proof.Machine
end

