-- ==== Sys2Proof/Machine/Flags.lean ====
section
/-! DEFINITION. The block has no flags and no condition codes (10_state.md rule R23). What the document calls a sign
flag is a payload byte, computed here. -/

namespace Sys2Proof.Machine

/-- `seventh_byte`: 0xC0 when the angle in centiradians is negative, else 0 (43_motion_pack.md rule R155 step 6,
30_encoding.md rule R76). It is recomputed for every payload and stored nowhere (10_state.md rule R23). -/
def signByte (centiradians : Int) : Nat := if centiradians < 0 then 0xC0 else 0x00

end Sys2Proof.Machine
end

