-- ==== Sys2Proof/WellFormed.lean ====
section
/-! DEFINITION. Which operations can be presented on the request bus: every operand fits its field (30_encoding.md
rules R63, R64 and R78; 93_implementation_defined.md I16). -/

namespace Sys2Proof

/-- The number fits a 32-bit two's-complement field (30_encoding.md rule R63). -/
def fitsS32 (v : Int) : Bool := decide (-2147483648 ≤ v ∧ v ≤ 2147483647)

/-- The number fits a 32-bit unsigned field (30_encoding.md rule R64). -/
def fitsU32 (v : Nat) : Bool := decide (v < 4294967296)

/-- The number fits the `MODE` field (30_encoding.md rules R61 and R78). -/
def fitsByte (v : Nat) : Bool := decide (v < 256)

/-- Both fields of a rational port fit (30_encoding.md rule R64). A zero denominator fits: it is a fault of the
operation that reads it, not of the bus. -/
def RatPort.wellFormed (q : RatPort) : Bool := fitsS32 q.num && fitsU32 q.den

/-- Every operand of the operation fits the request field 30_encoding.md rule R65 gives it. -/
def Instr.wellFormed : Instr → Bool
  | .oneByte v => fitsS32 v
  | .twoByte v => fitsS32 v
  | .signedAngleByte angle => fitsS32 angle
  | .color red green blue => red.wellFormed && green.wellFormed && blue.wellFormed
  | .stop => true
  | .drive speed => fitsS32 speed
  | .spin speed => fitsS32 speed
  | .turn degrees speedDps => fitsS32 degrees && speedDps.wellFormed
  | .move distanceMm speedMmps _ => fitsS32 distanceMm && speedMmps.wellFormed
  | .packMove distanceMm degrees seconds modeByte =>
    fitsS32 distanceMm && fitsS32 degrees && seconds.wellFormed && fitsByte modeByte

end Sys2Proof
end

