-- ==== Sys2Proof/Decode.lean ====
section
/-! DEFINITION. Reading an operation from the request bus, and writing one onto it (30_encoding.md rules R61 to R66,
R71 and R72). -/

namespace Sys2Proof

/-- `OPSEL`, bits 3:0 (30_encoding.md rule R61). -/
def Request.opsel (r : Request) : BitVec 4 := r.extractLsb' 0 4
/-- `RSV0`, bits 7:4. -/
def Request.rsv0 (r : Request) : BitVec 4 := r.extractLsb' 4 4
/-- `FLAG`, bit 8. -/
def Request.flag (r : Request) : Bool := r.getLsbD 8
/-- `RSV1`, bits 15:9. -/
def Request.rsv1 (r : Request) : BitVec 7 := r.extractLsb' 9 7
/-- `MODE`, bits 23:16. -/
def Request.mode (r : Request) : BitVec 8 := r.extractLsb' 16 8
/-- `RSV2`, bits 31:24. -/
def Request.rsv2 (r : Request) : BitVec 8 := r.extractLsb' 24 8
/-- `int(I0)`: bits 63:32 as a two's-complement number (30_encoding.md rule R63). -/
def Request.i0 (r : Request) : Int := (r.extractLsb' 32 32).toInt
/-- `int(I1)`: bits 95:64 as a two's-complement number (30_encoding.md rule R63). -/
def Request.i1 (r : Request) : Int := (r.extractLsb' 64 32).toInt

/-- The rational port whose numerator field starts at bit `lo`, its denominator field 32 bits above it
(30_encoding.md rules R61 and R64). -/
def Request.portAt (r : Request) (lo : Nat) : RatPort :=
  { num := (r.extractLsb' lo 32).toInt, den := (r.extractLsb' (lo + 32) 32).toNat }

/-- Port `Q0`, bits 159:96. -/
def Request.q0 (r : Request) : RatPort := r.portAt 96
/-- Port `Q1`, bits 223:160. -/
def Request.q1 (r : Request) : RatPort := r.portAt 160
/-- Port `Q2`, bits 287:224. -/
def Request.q2 (r : Request) : RatPort := r.portAt 224

/-- Why a request selects no operation (60_exceptions.md rule R207 gives both the same STATUS). -/
inductive DecodeError where
  /-- A bit of `RSV0`, `RSV1` or `RSV2` is 1 (30_encoding.md rule R62). -/
  | reservedBits
  /-- `OPSEL` is 0x0 or in 0xB to 0xF (30_encoding.md rule R72). -/
  | reservedOpsel
deriving DecidableEq, Repr

/-- The operation a request selects, with the operands 30_encoding.md rule R65 maps to its fields. The reserved bits
are looked at whatever `OPSEL` is (rule R62); fields an operation does not read are dropped (rule R66). -/
def decode (r : Request) : Except DecodeError Instr :=
  if r.rsv0 ≠ 0 ∨ r.rsv1 ≠ 0 ∨ r.rsv2 ≠ 0 then .error .reservedBits
  else
    match r.opsel.toNat with
    | 0x1 => .ok (.oneByte r.i0)
    | 0x2 => .ok (.twoByte r.i0)
    | 0x3 => .ok (.signedAngleByte r.i0)
    | 0x4 => .ok (.color r.q0 r.q1 r.q2)
    | 0x5 => .ok .stop
    | 0x6 => .ok (.drive r.i0)
    | 0x7 => .ok (.spin r.i0)
    | 0x8 => .ok (.turn r.i0 r.q0)
    | 0x9 => .ok (.move r.i0 r.q0 r.flag)
    | 0xA => .ok (.packMove r.i0 r.i1 r.q0 r.mode.toNat)
    | _ => .error .reservedOpsel

/-- The operation read from an instruction whose first `nbits` bits are `w` and whose higher bits are 0: the request
bus numbers its bits as the table does (30_encoding.md rule R61). -/
def decodeTableWord (nbits w : Nat) : Option Instr :=
  (decode (BitVec.ofNat 288 (w % 2 ^ nbits))).toOption

/-- The 64 bits of a rational port: denominator above numerator (30_encoding.md rule R61). -/
def RatPort.bits (q : RatPort) : BitVec 64 := BitVec.ofNat 32 q.den ++ BitVec.ofInt 32 q.num

/-- A port that is not read is assembled with both fields 0 (30_encoding.md rule R78). -/
def RatPort.unread : RatPort := { num := 0, den := 0 }

/-- The request bus built from its fields, with the reserved bits 0, the highest field first
(30_encoding.md rule R61). -/
def requestOf (opsel : BitVec 4) (flag : Bool) (mode : BitVec 8) (i0 i1 : Int) (q0 q1 q2 : RatPort) : Request :=
  q2.bits ++ q1.bits ++ q0.bits ++ BitVec.ofInt 32 i1 ++ BitVec.ofInt 32 i0 ++ 0#8 ++ mode ++ 0#7 ++
    BitVec.ofBool flag ++ 0#4 ++ opsel

/-- The request the assembler makes for an operation: each operand in the field 30_encoding.md rule R65 gives it,
every other field 0 (rule R78). -/
def encode : Instr → Request
  | .oneByte v => requestOf 0x1 false 0 v 0 .unread .unread .unread
  | .twoByte v => requestOf 0x2 false 0 v 0 .unread .unread .unread
  | .signedAngleByte angle => requestOf 0x3 false 0 angle 0 .unread .unread .unread
  | .color red green blue => requestOf 0x4 false 0 0 0 red green blue
  | .stop => requestOf 0x5 false 0 0 0 .unread .unread .unread
  | .drive speed => requestOf 0x6 false 0 speed 0 .unread .unread .unread
  | .spin speed => requestOf 0x7 false 0 speed 0 .unread .unread .unread
  | .turn degrees speedDps => requestOf 0x8 false 0 degrees 0 speedDps .unread .unread
  | .move distanceMm speedMmps noTurn => requestOf 0x9 noTurn 0 distanceMm 0 speedMmps .unread .unread
  | .packMove distanceMm degrees seconds modeByte =>
    requestOf 0xA false (BitVec.ofNat 8 modeByte) distanceMm degrees seconds .unread .unread

end Sys2Proof
end

