-- ==== Sys2Proof/Machine/State.lean ====
section
/-! DEFINITION. The state of the block's interface, the inputs that reach it, and the ways a step can end. -/

namespace Sys2Proof.Machine

/-- The outcome names of 60_exceptions.md rule R201. The last three are reserved for the surrounding software and are
never produced (rule R209). -/
inductive Status where
  | ok
  | rangeError
  | conflictingParameters
  | rotationLimitExceeded
  | zeroSpeed
  | badOperand
  | illegalRequest
  | unknownCommand
  | unknownSound
  | invalidColor
deriving DecidableEq, Repr

/-- The command classes of 30_encoding.md rule R70 that are produced. -/
inductive CommandClass where
  | fragment
  | drive
  | move
deriving DecidableEq, Repr

/-- One response, field by field as the response bus lays it out (30_encoding.md rule R67). -/
structure Response where
  status : BitVec 4
  len : BitVec 4
  cmd : BitVec 2
  rsvr : BitVec 6
  b0 : Byte
  b1 : Byte
  b2 : Byte
  b3 : Byte
  b4 : Byte
  b5 : Byte
  b6 : Byte
  b7 : Byte
deriving DecidableEq, Repr

/-- The values on the block's input signals at one sampling (30_encoding.md rule R60). `clk` is the sampling itself,
and the two static inputs are in `Params`. -/
structure Pins where
  rst : Bool
  reqValid : Bool
  req : Request
  rspReady : Bool
deriving DecidableEq, Repr

/-- The machine. The first five fields are the block's (10_state.md rule R27 and 00_scope.md rule R6). The others are
the world at its pins: what the inputs carry now and later, the request the handshake obliges the requester to hold
(70_reset_and_hazards.md rule R236), what the consumer has taken, and a counter for the free value of log entry 1. -/
structure State where
  /-- The static parameters; no step changes them (70_reset_and_hazards.md rule R234). -/
  cfg : Params
  /-- Responses of accepted requests not yet delivered, oldest first (10_state.md rule R27). -/
  pending : List Response
  /-- The output `RSP_VALID` in the slot the pins describe (10_state.md rule R27). -/
  rspValid : Bool
  /-- The output `RSP` in that slot (10_state.md rule R27). -/
  rsp : RspWord
  /-- The output `REQ_READY` in that slot (10_state.md rule R27). -/
  reqReady : Bool
  /-- The values on the input pins in the slot the next step takes. -/
  pins : Pins
  /-- The values on the input pins in the slots after it, soonest first. -/
  upcoming : List Pins
  /-- The request that was offered in the slot before and not accepted (70_reset_and_hazards.md rule R236). -/
  offered : Option Request
  /-- The RSP words the consumer has taken, oldest first: what a program of 95_test_vectors.md L3 ends with. -/
  delivered : List RspWord
  /-- How many free values of `Config.idleRsp` have been used (log entry 1). -/
  freeCount : Nat
deriving DecidableEq, Repr

/-- Why the machine stops with a fault of its own: never. The faults of 60_exceptions.md rule R200 are STATUS values
of a response, so they are next states, and the block has no address to miss and no trap to take (rule R213). -/
inductive Fault where
deriving DecidableEq, Repr

/-- Why the model refuses a step. -/
inductive Refusal where
  /-- Raised by `exec` for an operation that has no meaning yet. Safe: the model stops. No arm raises it. -/
  | notModelled (mnemonic : String)
  /-- Raised by `step` where the requester changes `REQ` or drops `REQ_VALID` before its request is accepted: such a
  run "has no defined result" and a model refuses it (70_reset_and_hazards.md rule R236, 93_implementation_defined.md
  I9). Safe: the model stops. -/
  | handshakeBroken
deriving DecidableEq, Repr

/-- Input pins that offer nothing and take nothing. DESIGN CHOICE (log entry 2): the spec gives inputs no reset
value. -/
def Pins.quiet : Pins := { rst := false, reqValid := false, req := 0, rspReady := false }

/-- The machine in the first slot with `rst = 0` after reset (70_reset_and_hazards.md rule R231, 10_state.md rule R27),
with the parameters at this spec's values (00_scope.md rule R6) and quiet inputs (log entry 2). -/
def State.reset : State :=
  { cfg := Params.specValue
    pending := []
    rspValid := false
    rsp := 0
    reqReady := true
    pins := Pins.quiet
    upcoming := []
    offered := none
    delivered := []
    freeCount := 0 }

end Sys2Proof.Machine
end

