-- ==== Sys2Proof/Machine/Ops.lean ====
section
/-! DEFINITION. The operations every instruction and every step is made of: finishing an operation with a payload or a
fault, the response bus, and the two transaction steps with the reset (30_encoding.md rules R67 to R70, 10_state.md rules
R27 and R28, 70_reset_and_hazards.md rules R230 to R236). -/

namespace Sys2Proof.Machine

/-- The STATUS code of an outcome (60_exceptions.md rule R201). -/
def Status.code : Status → BitVec 4
  | .ok => 0
  | .rangeError => 1
  | .conflictingParameters => 2
  | .rotationLimitExceeded => 3
  | .zeroSpeed => 4
  | .badOperand => 5
  | .illegalRequest => 6
  | .unknownCommand => 7
  | .unknownSound => 8
  | .invalidColor => 9

/-- The `CMD` value of a command class (30_encoding.md rule R70). -/
def CommandClass.code : CommandClass → BitVec 2
  | .fragment => 0
  | .drive => 1
  | .move => 2

/-- Byte `i` of the response bus for a payload: `bi` for `i < n`, else 0 (30_encoding.md rule R68). -/
def payloadByte (bytes : List Nat) (i : Nat) : Byte := BitVec.ofNat 8 (bytes.getD i 0)

/-- `emit(cmd, [b0, ...])`: the response of an operation that succeeds (30_encoding.md rule R68). -/
def emit (cmd : CommandClass) (bytes : List Nat) : Response :=
  { status := Status.ok.code
    len := BitVec.ofNat 4 bytes.length
    cmd := cmd.code
    rsvr := 0
    b0 := payloadByte bytes 0
    b1 := payloadByte bytes 1
    b2 := payloadByte bytes 2
    b3 := payloadByte bytes 3
    b4 := payloadByte bytes 4
    b5 := payloadByte bytes 5
    b6 := payloadByte bytes 6
    b7 := payloadByte bytes 7 }

/-- `raise E`: the response of an operation that faults. This is the whole of taking an exception on this block: no
byte leaves, nothing is saved, no control moves (30_encoding.md rule R69, 60_exceptions.md rules R205, R210 and R213). -/
def raise (e : Status) : Response :=
  { status := e.code, len := 0, cmd := 0, rsvr := 0, b0 := 0, b1 := 0, b2 := 0, b3 := 0, b4 := 0, b5 := 0, b6 := 0, b7 := 0 }

/-- The 80-bit word of a response, the highest field first (30_encoding.md rule R67). -/
def Response.word (r : Response) : RspWord :=
  r.b7 ++ r.b6 ++ r.b5 ++ r.b4 ++ r.b3 ++ r.b2 ++ r.b1 ++ r.b0 ++ r.rsvr ++ r.cmd ++ r.len ++ r.status

/-- The parameters that the two static inputs `CFG_STRICT_FIELDS` and `CFG_ROUNDING` set (30_encoding.md rule R60). -/
def paramsOfSignals (cfgStrictFields cfgRounding : BitVec 1) (maxOutstanding : Nat) : Params :=
  { strictFields := cfgStrictFields = 1
    rounding := if cfgRounding = 0 then .halfEven else .halfAway
    maxOutstanding := maxOutstanding }

/-- The step `accept` of 10_state.md rule R28, with the response the request has. -/
def State.accept (s : State) (r : Response) : State := { s with pending := s.pending ++ [r] }

/-- The step `deliver` of 10_state.md rule R28. The consumer takes the word that stands on `RSP`. -/
def State.deliver (s : State) : State :=
  { s with pending := s.pending.tail, delivered := s.delivered ++ [s.rsp] }

/-- A request is accepted in a slot where `REQ_VALID = 1` and `REQ_READY = 1` (30_encoding.md rule R60), and in none
with `rst = 1` (70_reset_and_hazards.md rule R230). -/
def State.acceptEnabled (s : State) : Bool := !s.pins.rst && s.pins.reqValid && s.reqReady

/-- A response is delivered in a slot where `RSP_VALID = 1` and `RSP_READY = 1` (30_encoding.md rule R60), and in none
with `rst = 1` (70_reset_and_hazards.md rule R230). -/
def State.deliverEnabled (s : State) : Bool := !s.pins.rst && s.rspValid && s.pins.rspReady

/-- The request that the requester must go on holding after this slot (70_reset_and_hazards.md rule R236, point 1). A
slot with `rst = 1` leaves none, since the block ignores `REQ` there (rule R230; DEDUCED, log entry 6). -/
def State.heldRequest (s : State) : Option Request :=
  if s.pins.reqValid && !s.pins.rst && !s.acceptEnabled then some s.pins.req else none

/-- The requester has changed or dropped a request it had to hold (70_reset_and_hazards.md rule R236, point 1). -/
def State.handshakeBroken (s : State) : Bool :=
  match s.offered with
  | none => false
  | some r => !(s.pins.reqValid && s.pins.req == r)

/-- The inputs of the slots after this one. Where nothing more is laid down for them, the requester holds a request
that was not accepted and offers no new one, `rst` is 0 and `RSP_READY` keeps its level (DESIGN CHOICE, log entry 2). -/
def State.nextPins (s : State) : Pins × List Pins :=
  match s.upcoming with
  | p :: later => (p, later)
  | [] =>
    ({ rst := false
       reqValid := s.pins.reqValid && !s.acceptEnabled
       req := s.pins.req
       rspReady := s.pins.rspReady }, [])

/-- The inputs move on to the next slot. -/
def State.advancePins (s : State) : State :=
  { s with pins := s.nextPins.1, upcoming := s.nextPins.2, offered := s.heldRequest }

/-- `REQ_READY` in the slot the pins describe (10_state.md rule R27, 70_reset_and_hazards.md rules R230 and R231). -/
def State.readyNow (s : State) : Bool := !s.pins.rst && decide (s.pending.length < s.cfg.maxOutstanding)

/-- `RSP_VALID` in the slot the pins describe (10_state.md rule R27, 70_reset_and_hazards.md rule R230). -/
def State.validNow (s : State) : Bool := !s.pins.rst && !s.pending.isEmpty

/-- `RSP` in the slot the pins describe: the head of `pending` when `RSP_VALID = 1` (10_state.md rule R27); where
`RSP_VALID` falls, a free value (log entry 1); else what stood there. -/
def State.rspNow (s : State) : RspWord :=
  match s.validNow, s.pending with
  | true, r :: _ => r.word
  | _, _ => if s.rspValid then Config.idleRsp s.freeCount else s.rsp

/-- The outputs take the values of the slot the pins describe. -/
def State.driveOutputs (s : State) : State :=
  { s with
    rspValid := s.validNow
    rsp := s.rspNow
    reqReady := s.readyNow
    freeCount := if s.rspValid && !s.validNow then s.freeCount + 1 else s.freeCount }

/-- The end of a slot with `rst = 0`: the response on `RSP` leaves if its handshake is complete, and the pins and
outputs move to the next slot. -/
def State.closeSlot (s : State) : State :=
  (if s.deliverEnabled then s.deliver else s).advancePins.driveOutputs

/-- The block's own state at the end of a slot with `rst = 1` (70_reset_and_hazards.md rule R231): the undelivered
responses are lost, and `RSP` is all zero. -/
def State.clear (s : State) : State := { s with pending := [], rspValid := false, rsp := 0 }

/-- A whole slot with `rst = 1` (70_reset_and_hazards.md rules R230 and R231). -/
def State.resetSlot (s : State) : State := s.clear.advancePins.driveOutputs

/-- The request on the bus, read as an operation: what this block has for a fetch (10_state.md rule R22). -/
def State.requested (s : State) : Except DecodeError Instr := decode s.pins.req

/-- Acceptance of a request that selects no operation: it raises `ILLEGAL_REQUEST` (30_encoding.md rules R62 and R72,
60_exceptions.md rule R207). -/
def State.acceptIllegal (s : State) : State := s.accept (raise .illegalRequest)

/-- The request `w` stands on the bus with `REQ_VALID = 1`, the block able to accept it: `rst` is 0, no other request
is being held, and `pending` has room (its newest entry goes if it was full). -/
def State.presentRequest (s : State) (w : Request) : State :=
  { s with
    pins := { s.pins with rst := false, reqValid := true, req := w }
    offered := none
    pending := s.pending.take (s.cfg.maxOutstanding - 1) }.driveOutputs

end Sys2Proof.Machine
end

