-- ==== Sys2Proof/Machine/Color.lean ====
section
/-! DEFINITION. The colour encoder: COLOR (41_color.md). -/

namespace Sys2Proof.Machine

/-- One colour byte: `clamp(round(channel × 255), 0, 255)` (41_color.md rule R121). -/
def channelByte (mode : Rounding) (channel : Rat) : Nat := (clamp (roundRat mode (channel * 255)) 0 255).toNat

/-- The pseudocode of 41_color.md rule R121. -/
def colorResponse (cfg : Params) (q0 q1 q2 : RatPort) : Response :=
  if q0.den = 0 ∨ q1.den = 0 ∨ q2.den = 0 then raise .badOperand
  else
    let r := portValue q0
    let g := portValue q1
    let b := portValue q2
    emit .fragment [channelByte cfg.rounding r, channelByte cfg.rounding g, channelByte cfg.rounding b]

/-- COLOR (41_color.md rule R121). -/
def execColor (red green blue : RatPort) (s : State) : Host.Outcome State Fault Refusal :=
  .next (s.accept (colorResponse s.cfg red green blue))

end Sys2Proof.Machine
end

