-- ==== Sys2Proof/Machine/Motion.lean ====
section
/-! DEFINITION. The general packer of the motion encoder and the operations that call it: PACK_MOVE, TURN and MOVE
(43_motion_pack.md). -/

namespace Sys2Proof.Machine

/-- The strict field checks of 43_motion_pack.md rule R154, in the order rule R155 writes them: the fault of the first
that fails. -/
def strictFault (dist deg : Int) (secs : Rat) (tm : Int) : Option Status :=
  if deg < -360 ∨ deg > 360 then some .rotationLimitExceeded
  else if dist < -8192 ∨ dist > 8191 then some .rangeError
  else if secs < 0 then some .rangeError
  else if tm > 65535 then some .rangeError
  else none

/-- Steps 2 to 8 of the packer: the eight bytes (43_motion_pack.md rule R155, 30_encoding.md rule R76). -/
def packBytes (dist c tm : Int) (mode : Nat) : List Nat :=
  let distanceLow := andMask dist 0x00FF
  let distanceHigh := andMask dist 0x3F00 >>> 8
  let turnLow := andMask c 0x00FF
  let turnHigh := andMask c 0x0300 >>> 2
  let sixthByte := distanceHigh ||| turnHigh
  let timeHigh := andMask tm 0xFF00 >>> 8
  let timeLow := andMask tm 0x00FF
  [distanceLow, 0x00, turnLow, timeHigh, timeLow, sixthByte, signByte c, mode]

/-- `pack(dist, deg, secs, mode)` (43_motion_pack.md rule R155). -/
def pack (cfg : Params) (dist deg : Int) (secs : Rat) (mode : Nat) : Response :=
  if dist ≠ 0 ∧ deg ≠ 0 then raise .conflictingParameters
  else
    let tm := timeMeasure cfg.rounding secs
    match (if cfg.strictFields then strictFault dist deg secs tm else none) with
    | some e => raise e
    | none => emit .move (packBytes dist (centirad deg) tm mode)

/-- The pseudocode of 43_motion_pack.md rule R155. -/
def packMoveResponse (cfg : Params) (dist deg : Int) (q0 : RatPort) (mode : Nat) : Response :=
  if q0.den = 0 then raise .badOperand
  else pack cfg dist deg (portValue q0) mode

/-- The pseudocode of 43_motion_pack.md rule R160. -/
def turnResponse (cfg : Params) (deg : Int) (q0 : RatPort) : Response :=
  if q0.den = 0 then raise .badOperand
  else if deg < -360 ∨ deg > 360 then raise .rotationLimitExceeded
  else if deg = 0 then emit .fragment []
  else
    let dps := portValue q0
    if dps = 0 then raise .zeroSpeed
    else pack cfg 0 deg (ratAbs ((deg : Rat) / dps)) 0x80

/-- The mode byte of MOVE (43_motion_pack.md rules R161 and R162). -/
def moveMode (dist : Int) (noTurn : Bool) : Nat := if noTurn = true ∧ dist < 0 then 0x81 else 0x80

/-- The pseudocode of 43_motion_pack.md rule R161. -/
def moveResponse (cfg : Params) (dist : Int) (q0 : RatPort) (noTurn : Bool) : Response :=
  if q0.den = 0 then raise .badOperand
  else
    let v := portValue q0
    if v = 0 then raise .zeroSpeed
    else pack cfg dist 0 (ratAbs ((dist : Rat) / ratAbs v)) (moveMode dist noTurn)

/-- PACK_MOVE (43_motion_pack.md rule R155). -/
def execPackMove (distanceMm degrees : Int) (seconds : RatPort) (modeByte : Nat) (s : State) :
    Host.Outcome State Fault Refusal :=
  .next (s.accept (packMoveResponse s.cfg distanceMm degrees seconds modeByte))

/-- TURN (43_motion_pack.md rule R160). -/
def execTurn (degrees : Int) (speedDps : RatPort) (s : State) : Host.Outcome State Fault Refusal :=
  .next (s.accept (turnResponse s.cfg degrees speedDps))

/-- MOVE (43_motion_pack.md rule R161). -/
def execMove (distanceMm : Int) (speedMmps : RatPort) (noTurn : Bool) (s : State) :
    Host.Outcome State Fault Refusal :=
  .next (s.accept (moveResponse s.cfg distanceMm speedMmps noTurn))

end Sys2Proof.Machine
end

