-- ==== Sys2Proof/Machine/Scalar.lean ====
section
/-! DEFINITION. The scalar encoders: ONE_BYTE, TWO_BYTE and SIGNED_ANGLE_BYTE (40_scalar.md). -/

namespace Sys2Proof.Machine

/-- The pseudocode of 40_scalar.md rule R101. -/
def oneByteResponse (v : Int) : Response :=
  if v < 0 ∨ v > 255 then raise .rangeError
  else emit .fragment [v.toNat]

/-- The pseudocode of 40_scalar.md rule R102. -/
def twoByteResponse (v : Int) : Response :=
  if v < 0 ∨ v > 65535 then raise .rangeError
  else emit .fragment [andMask v 0xFF00 >>> 8, andMask v 0x00FF]

/-- The byte of 40_scalar.md rule R103, for an angle in its domain. -/
def angleByte (a : Int) : Nat :=
  if a < 0 then ((-a).toNat ^^^ 0xFF) + 1 else andMask a 0xFF

/-- The pseudocode of 40_scalar.md rule R103. -/
def signedAngleByteResponse (a : Int) : Response :=
  if a < -127 ∨ a > 127 then raise .rangeError
  else emit .fragment [angleByte a]

/-- ONE_BYTE (40_scalar.md rule R101). -/
def execOneByte (v : Int) (s : State) : Host.Outcome State Fault Refusal :=
  .next (s.accept (oneByteResponse v))

/-- TWO_BYTE (40_scalar.md rule R102). -/
def execTwoByte (v : Int) (s : State) : Host.Outcome State Fault Refusal :=
  .next (s.accept (twoByteResponse v))

/-- SIGNED_ANGLE_BYTE (40_scalar.md rule R103). -/
def execSignedAngleByte (angle : Int) (s : State) : Host.Outcome State Fault Refusal :=
  .next (s.accept (signedAngleByteResponse angle))

end Sys2Proof.Machine
end

