-- ==== Sys2Proof/Machine/Speed.lean ====
section
/-! DEFINITION. The speed operations of the motion encoder: STOP, DRIVE and SPIN (42_motion_speed.md). -/

namespace Sys2Proof.Machine

/-- The speed clamp of 42_motion_speed.md rule R130. -/
def clampSpeed (speed : Int) : Int := clamp speed (-2048) 2048

/-- The sign fold of a clamped speed (42_motion_speed.md rule R131). -/
def foldSpeed (s : Int) : Int := if s < 0 then 0x800 + s else s

/-- The pseudocode of 42_motion_speed.md rule R132. -/
def stopResponse : Response := emit .drive [0x00, 0x00, 0x00]

/-- The pseudocode of 42_motion_speed.md rule R133. -/
def driveResponse (speed : Int) : Response :=
  let f := foldSpeed (clampSpeed speed)
  emit .drive [andMask f 0xFF, 0x00, andMask f 0x0F00 >>> 8]

/-- The pseudocode of 42_motion_speed.md rule R134, with its shift as written (rule R136). -/
def spinResponse (speed : Int) : Response :=
  let f := foldSpeed (clampSpeed speed)
  emit .drive [0x00, andMask f 0xFF, andMask f 0xFF00 >>> 5]

/-- STOP (42_motion_speed.md rule R132). -/
def execStop (s : State) : Host.Outcome State Fault Refusal :=
  .next (s.accept stopResponse)

/-- DRIVE (42_motion_speed.md rule R133). -/
def execDrive (speed : Int) (s : State) : Host.Outcome State Fault Refusal :=
  .next (s.accept (driveResponse speed))

/-- SPIN (42_motion_speed.md rule R134). -/
def execSpin (speed : Int) (s : State) : Host.Outcome State Fault Refusal :=
  .next (s.accept (spinResponse speed))

end Sys2Proof.Machine
end

