-- ==== Sys2Proof/Machine/Dispatch.lean ====
section
/-! DEFINITION. One arm per operation of the table (30_encoding.md rule R71). -/

namespace Sys2Proof.Machine

/-- The effect of accepting an operation: its response joins `pending` (10_state.md rule R28). -/
def exec (i : Instr) (s : State) : Host.Outcome State Fault Refusal :=
  match i with
  | .oneByte v => Sys2Proof.Machine.execOneByte v s
  | .twoByte v => Sys2Proof.Machine.execTwoByte v s
  | .signedAngleByte angle => Sys2Proof.Machine.execSignedAngleByte angle s
  | .color red green blue => Sys2Proof.Machine.execColor red green blue s
  | .stop => Sys2Proof.Machine.execStop s
  | .drive speed => Sys2Proof.Machine.execDrive speed s
  | .spin speed => Sys2Proof.Machine.execSpin speed s
  | .turn degrees speedDps => Sys2Proof.Machine.execTurn degrees speedDps s
  | .move distanceMm speedMmps noTurn => Sys2Proof.Machine.execMove distanceMm speedMmps noTurn s
  | .packMove distanceMm degrees seconds modeByte => Sys2Proof.Machine.execPackMove distanceMm degrees seconds modeByte s

end Sys2Proof.Machine
end

