-- ==== Sys2Proof/Machine/Step.lean ====
section
/-! DEFINITION. One step of the machine: one sampling of the interface (30_encoding.md rule R60). -/

namespace Sys2Proof.Machine

/-- One slot. With `rst = 1` the block resets (70_reset_and_hazards.md rule R230). Else a broken handshake is refused
(rule R236); a request that is offered and can be accepted is decoded and executed, or found illegal; and the slot
closes, with the delivery of the response on `RSP` where its handshake is complete. -/
def step (s : State) : Host.Outcome State Fault Refusal :=
  if s.pins.rst then .next s.resetSlot
  else if s.handshakeBroken then .refused .handshakeBroken
  else if s.acceptEnabled then
    match s.requested with
    | .error _ => .next s.acceptIllegal.closeSlot
    | .ok i =>
      match exec i s with
      | .next t => .next t.closeSlot
      | .fault f => .fault f
      | .refused r => .refused r
  else .next s.closeSlot

/-- `s` with the instruction whose first `nbits` bits are `w` (the rest 0) on the request bus, accepted by the very next
step: this block fetches nothing, and its operations come from outside (10_state.md rule R22; log entry 5). -/
def State.withFetchWord (s : State) (nbits w : Nat) : State :=
  s.presentRequest (BitVec.ofNat 288 (w % 2 ^ nbits))

end Sys2Proof.Machine
end

