-- ==== Sys2Proof/Machine/Assembler.lean ====
section
/-! DEFINITION. The spec's assembly language: one line to one request (30_encoding.md rules R78 and R79,
92_eei_decisions.md D28). It is the requester's side of the bus; the block itself reads no text. -/

namespace Sys2Proof.Machine

/-- What one line of assembly asks for: an operation, or `.req` with the 288 bits themselves (30_encoding.md rule R78). -/
inductive AsmLine where
  | op (i : Instr)
  | req (w : Request)
deriving DecidableEq, Repr

/-- The request a line makes. A line whose operand does not fit its field makes none (30_encoding.md rule R78,
93_implementation_defined.md I16). -/
def assemble : AsmLine → Option Request
  | .op i => if i.wellFormed then some (encode i) else none
  | .req w => some w

/-- The fields of a literal `n/d`, unreduced (30_encoding.md rule R79). -/
def fractionLiteral (n : Int) (d : Nat) : RatPort := { num := n, den := d }

/-- The fields of an integer literal (30_encoding.md rule R79). -/
def integerLiteral (n : Int) : RatPort := { num := n, den := 1 }

/-- The fields of a decimal literal `a.f` with `k` fraction digits, whose digits without the point read `scaled`
(30_encoding.md rule R79). -/
def decimalLiteral (scaled : Int) (k : Nat) : RatPort := { num := scaled, den := 10 ^ k }

/-- The value of a digit, hexadecimal ones in either case (DESIGN CHOICE, log entry 12). -/
def digitValue (c : Char) : Option Nat :=
  if '0' ≤ c ∧ c ≤ '9' then some (c.toNat - 48)
  else if 'A' ≤ c ∧ c ≤ 'F' then some (c.toNat - 55)
  else if 'a' ≤ c ∧ c ≤ 'f' then some (c.toNat - 87)
  else none

/-- The number that digits of a base write after `acc`; none where a character is no digit of that base. -/
def digitsFrom (base acc : Nat) : List Char → Option Nat
  | [] => some acc
  | c :: cs =>
    match digitValue c with
    | some d => if d < base then digitsFrom base (acc * base + d) cs else none
    | none => none

/-- A number of at least one digit; leading zeros are allowed (DESIGN CHOICE, log entry 12). -/
def parseDigits (base : Nat) : List Char → Option Nat
  | [] => none
  | cs => digitsFrom base 0 cs

/-- The denominator `d` of `n/d`: decimal, or hexadecimal after `0x`, without a sign (30_encoding.md rule R79 names no
form for it: DESIGN CHOICE, log entry 12). -/
def parseNat : List Char → Option Nat
  | '0' :: 'x' :: cs => parseDigits 16 cs
  | cs => parseDigits 10 cs

/-- The optional sign of a decimal literal: whether it is negative, and the rest. -/
def splitSign : List Char → Bool × List Char
  | '-' :: cs => (true, cs)
  | '+' :: cs => (false, cs)
  | cs => (false, cs)

/-- A number with the sign read for it. -/
def withSign (negative : Bool) (n : Nat) : Int := if negative then -(n : Int) else n

/-- `<int>`: a decimal integer with an optional sign, or a hexadecimal literal (30_encoding.md rule R78). The sign may be
`-` or `+`, and a hexadecimal literal has none (DESIGN CHOICE, log entry 12). -/
def parseInt : List Char → Option Int
  | '0' :: 'x' :: cs => (parseDigits 16 cs).map Int.ofNat
  | cs => (parseDigits 10 (splitSign cs).2).map (withSign (splitSign cs).1)

/-- The parts of a text between the places where `sep` stands. -/
def splitAt (sep : Char) : List Char → List (List Char)
  | [] => [[]]
  | c :: cs =>
    if c = sep then [] :: splitAt sep cs
    else
      match splitAt sep cs with
      | part :: parts => (c :: part) :: parts
      | [] => [[c]]

/-- `<rat>`: `n/d`, an integer, or a decimal `a.f` (30_encoding.md rule R79). The forms of each part, which the rule
leaves open, are a DESIGN CHOICE (log entry 12): `n` and an integer are any `<int>`, `d` is an unsigned literal in
decimal or after `0x`, and `a` and `f` each have at least one decimal digit, with an optional sign before `a`. -/
def parseRat (cs : List Char) : Option RatPort :=
  match splitAt '/' cs with
  | [n, d] =>
    match parseInt n, parseNat d with
    | some num, some den => some (fractionLiteral num den)
    | _, _ => none
  | _ =>
    match splitAt '.' (splitSign cs).2 with
    | [a, f] =>
      match parseDigits 10 a, parseDigits 10 f with
      | some _, some _ =>
        (parseDigits 10 (a ++ f)).map fun n => decimalLiteral (withSign (splitSign cs).1 n) f.length
      | _, _ => none
    | _ => (parseInt cs).map integerLiteral

/-- `<byte>`: an integer in [0, 255] (30_encoding.md rule R78); its upper bound is a check of `assemble`. It may be spelled
as any `<int>` of that value (DESIGN CHOICE, log entry 12). -/
def parseByte (cs : List Char) : Option Nat :=
  match parseInt cs with
  | some v => if 0 ≤ v then some v.toNat else none
  | none => none

/-- `<bit>`: 0 or 1 (30_encoding.md rule R78). It may be spelled as any `<int>` of that value, so `0x1`, `+1`, `01` and
`-0` are read too (DESIGN CHOICE, log entry 12). -/
def parseBit (cs : List Char) : Option Bool :=
  match parseInt cs with
  | some 0 => some false
  | some 1 => some true
  | _ => none

/-- A text without the blanks before and after it; the space is the only blank (DESIGN CHOICE, log entry 12). -/
def trim (cs : List Char) : List Char :=
  ((cs.dropWhile (· == ' ')).reverse.dropWhile (· == ' ')).reverse

/-- The operands of a line, which commas separate, with blanks around each ignored; none where there is nothing after the
mnemonic (DESIGN CHOICE, log entry 12). -/
def operandsOf (cs : List Char) : List (List Char) :=
  if trim cs = [] then [] else (splitAt ',' cs).map trim

/-- The operation a mnemonic and its operands write (30_encoding.md rule R78). -/
def parseOperation (mnemonic : List Char) (operands : List (List Char)) : Option Instr :=
  if mnemonic = "ONE_BYTE".toList then
    match operands with
    | [v] => (parseInt v).map Instr.oneByte
    | _ => none
  else if mnemonic = "TWO_BYTE".toList then
    match operands with
    | [v] => (parseInt v).map Instr.twoByte
    | _ => none
  else if mnemonic = "SIGNED_ANGLE_BYTE".toList then
    match operands with
    | [a] => (parseInt a).map Instr.signedAngleByte
    | _ => none
  else if mnemonic = "COLOR".toList then
    match operands with
    | [r, g, b] =>
      match parseRat r, parseRat g, parseRat b with
      | some red, some green, some blue => some (.color red green blue)
      | _, _, _ => none
    | _ => none
  else if mnemonic = "STOP".toList then
    match operands with
    | [] => some .stop
    | _ => none
  else if mnemonic = "DRIVE".toList then
    match operands with
    | [v] => (parseInt v).map Instr.drive
    | _ => none
  else if mnemonic = "SPIN".toList then
    match operands with
    | [v] => (parseInt v).map Instr.spin
    | _ => none
  else if mnemonic = "TURN".toList then
    match operands with
    | [d, v] =>
      match parseInt d, parseRat v with
      | some degrees, some speedDps => some (.turn degrees speedDps)
      | _, _ => none
    | _ => none
  else if mnemonic = "MOVE".toList then
    match operands with
    | [d, v, n] =>
      match parseInt d, parseRat v, parseBit n with
      | some distanceMm, some speedMmps, some noTurn => some (.move distanceMm speedMmps noTurn)
      | _, _, _ => none
    | _ => none
  else if mnemonic = "PACK_MOVE".toList then
    match operands with
    | [d, a, t, m] =>
      match parseInt d, parseInt a, parseRat t, parseByte m with
      | some distanceMm, some degrees, some seconds, some modeByte =>
        some (.packMove distanceMm degrees seconds modeByte)
      | _, _, _, _ => none
    | _ => none
  else none

/-- One line of assembly: a mnemonic and its operands, or `.req` and exactly 72 hexadecimal digits (30_encoding.md rule
R78). At least one blank ends the mnemonic where something follows it (DESIGN CHOICE, log entry 12). -/
def parseLine (line : List Char) : Option AsmLine :=
  let text := trim line
  let mnemonic := text.takeWhile (· != ' ')
  let rest := text.dropWhile (· != ' ')
  if mnemonic = ".req".toList then
    if (trim rest).length = 72 then (parseDigits 16 (trim rest)).map fun w => AsmLine.req (BitVec.ofNat 288 w)
    else none
  else (parseOperation mnemonic (operandsOf rest)).map AsmLine.op

/-- The request a line of text makes, or none where the assembler refuses the line (30_encoding.md rule R78). -/
def assembleText (line : List Char) : Option Request := (parseLine line).bind assemble

end Sys2Proof.Machine
end

