-- ==== Sys2Proof/Machine/Respond.lean ====
section
/-! DEFINITION. The one total function from requests to responses that 10_state.md rule R20 asks for, reading no state. -/

namespace Sys2Proof.Machine

/-- The response of an operation: a function of its operands and the static parameters alone (10_state.md rule R20). -/
def responseOf (cfg : Params) : Instr → Response
  | .oneByte v => oneByteResponse v
  | .twoByte v => twoByteResponse v
  | .signedAngleByte angle => signedAngleByteResponse angle
  | .color red green blue => colorResponse cfg red green blue
  | .stop => stopResponse
  | .drive speed => driveResponse speed
  | .spin speed => spinResponse speed
  | .turn degrees speedDps => turnResponse cfg degrees speedDps
  | .move distanceMm speedMmps noTurn => moveResponse cfg distanceMm speedMmps noTurn
  | .packMove distanceMm degrees seconds modeByte => packMoveResponse cfg distanceMm degrees seconds modeByte

/-- `encode(req)` of 10_state.md rules R20 and R28: the response of a request, the illegal ones included (60_exceptions.md
rule R207). -/
def respond (cfg : Params) (req : Request) : Response :=
  match decode req with
  | .error _ => raise .illegalRequest
  | .ok i => responseOf cfg i

end Sys2Proof.Machine
end

