-- ==== Sys2Proof/Safety.lean ====
section
/-! DEFINITION. The terms the claims are made in: what a rule of the spec says of a response, written from the rule
and not from the model's own functions, and what a sound state of the interface is. -/

namespace Sys2Proof.Machine

/-- Payload byte `bi` of a response (30_encoding.md rule R67). -/
def Response.byteAt (r : Response) (i : Nat) : Byte := [r.b0, r.b1, r.b2, r.b3, r.b4, r.b5, r.b6, r.b7].getD i 0

/-- The response is what `emit(cmd, bytes)` makes, as numbers: nothing is cut to a width on the way (30_encoding.md
rule R68). -/
def EmitsPayload (r : Response) (cmd : Nat) (bytes : List Nat) : Prop :=
  r.status.toNat = 0 ∧ r.len.toNat = bytes.length ∧ r.cmd.toNat = cmd ∧ r.rsvr.toNat = 0 ∧
    ∀ i, i < 8 → (r.byteAt i).toNat = bytes.getD i 0

/-- The response is what `raise` makes for the STATUS code `code` (30_encoding.md rule R69). -/
def RaisesCode (r : Response) (code : Nat) : Prop :=
  r.status.toNat = code ∧ r.len.toNat = 0 ∧ r.cmd.toNat = 0 ∧ r.rsvr.toNat = 0 ∧
    ∀ i, i < 8 → (r.byteAt i).toNat = 0

/-- What 30_encoding.md rules R67, R68 and R70 and 60_exceptions.md rules R205 and R209 allow on the response bus. -/
structure Response.Sound (r : Response) : Prop where
  status_le : r.status.toNat ≤ 6
  len_le : r.len.toNat ≤ 8
  cmd_le : r.cmd.toNat ≤ 2
  rsvr_zero : r.rsvr.toNat = 0
  rest_zero : ∀ i, r.len.toNat ≤ i → i < 8 → (r.byteAt i).toNat = 0
  fault_empty : r.status.toNat ≠ 0 → r.len.toNat = 0 ∧ r.cmd.toNat = 0

/-- The control word matches the value under the mask of 30_encoding.md rule R71. -/
def SelectsOpsel (req : Request) (n : Nat) : Prop :=
  req.extractLsb' 0 32 &&& 0xFF00FEFF#32 = BitVec.ofNat 32 n

/-- The `OPSEL` value of an operation (30_encoding.md rule R71). -/
def opselOf : Instr → Nat
  | .oneByte .. => 0x1
  | .twoByte .. => 0x2
  | .signedAngleByte .. => 0x3
  | .color .. => 0x4
  | .stop => 0x5
  | .drive .. => 0x6
  | .spin .. => 0x7
  | .turn .. => 0x8
  | .move .. => 0x9
  | .packMove .. => 0xA

/-- A request with ones at bits `hi` down to `lo`. -/
def onesAt (hi lo : Nat) : Request := BitVec.ofNat 288 ((2 ^ (hi + 1 - lo) - 1) * 2 ^ lo)

/-- The bits of the request bus an operation's response can depend on: `OPSEL` and the reserved bits for each
(30_encoding.md rules R62 and R71), and the fields rule R65 marks. -/
def readBits (i : Instr) : Request :=
  0xFF00FEFF#288 |||
    match i with
    | .oneByte .. => onesAt 63 32
    | .twoByte .. => onesAt 63 32
    | .signedAngleByte .. => onesAt 63 32
    | .color .. => onesAt 159 96 ||| onesAt 223 160 ||| onesAt 287 224
    | .stop => 0
    | .drive .. => onesAt 63 32
    | .spin .. => onesAt 63 32
    | .turn .. => onesAt 63 32 ||| onesAt 159 96
    | .move .. => onesAt 63 32 ||| onesAt 159 96 ||| onesAt 8 8
    | .packMove .. => onesAt 63 32 ||| onesAt 95 64 ||| onesAt 159 96 ||| onesAt 23 16

/-- The integer `n` is `round(x)` under the tie rule given: the nearest integer, and of two nearest ones the even one or
the one farther from zero (00_scope.md rule R10). -/
def RoundsTo (mode : Rounding) (x : ℚ) (n : ℤ) : Prop :=
  |x - n| < 1 / 2 ∨
    (|x - n| = 1 / 2 ∧
      match mode with
      | .halfEven => n % 2 = 0
      | .halfAway => |x| < |(n : ℚ)|)

/-- The integer `c` is the one nearest to `d × 5π / 9`, with the real π (43_motion_pack.md rule R151). -/
def NearestCentiradians (d c : ℤ) : Prop := |(c : ℝ) - (d : ℝ) * 5 * Real.pi / 9| < 1 / 2

/-- The eight bytes of a MOVE-class payload, laid out by 30_encoding.md rule R76 from the 14-bit distance, the 10-bit
angle, the 16-bit duration, the sign of the angle and the mode. -/
def moveClassBytes (dist c tm : Int) (mode : Nat) : List Nat :=
  let D := (dist % 16384).toNat
  let C := (c % 1024).toNat
  let T := (tm % 65536).toNat
  [D % 256, 0, C % 256, T / 256, T % 256, C / 256 * 64 + D / 256, if c < 0 then 192 else 0, mode]

/-- The folded speed of 42_motion_speed.md rules R130 and R131, for any speed. -/
def foldedSpeed (speed : Int) : Int :=
  let s := max (-2048) (min 2048 speed)
  if s < 0 then 2048 + s else s

/-- The code of the packer's first failing check in the order of 60_exceptions.md rule R211, or 0. -/
def packerFault (cfg : Params) (dist deg : Int) (secs : ℚ) : Nat :=
  if dist ≠ 0 ∧ deg ≠ 0 then 2
  else if cfg.strictFields = true ∧ 360 < |deg| then 3
  else if cfg.strictFields = true ∧ (dist < -8192 ∨ 8191 < dist) then 1
  else if cfg.strictFields = true ∧ secs < 0 then 1
  else if cfg.strictFields = true ∧ 65535 < timeMeasure cfg.rounding secs then 1
  else 0

/-- The code of an operation's first fault in the order of 60_exceptions.md rule R211, or 0. -/
def firstFault (cfg : Params) : Instr → Nat
  | .oneByte v => if v < 0 ∨ 255 < v then 1 else 0
  | .twoByte v => if v < 0 ∨ 65535 < v then 1 else 0
  | .signedAngleByte a => if a < -127 ∨ 127 < a then 1 else 0
  | .color q0 q1 q2 => if q0.den = 0 ∨ q1.den = 0 ∨ q2.den = 0 then 5 else 0
  | .stop => 0
  | .drive _ => 0
  | .spin _ => 0
  | .turn deg q =>
    if q.den = 0 then 5
    else if 360 < |deg| then 3
    else if deg = 0 then 0
    else if q.num = 0 then 4
    else packerFault cfg 0 deg |(deg : ℚ) / ((q.num : ℚ) / (q.den : ℚ))|
  | .move dist q _ =>
    if q.den = 0 then 5
    else if q.num = 0 then 4
    else packerFault cfg dist 0 |(dist : ℚ) / ((q.num : ℚ) / (q.den : ℚ))|
  | .packMove dist deg q _ => if q.den = 0 then 5 else packerFault cfg dist deg ((q.num : ℚ) / (q.den : ℚ))

/-- The code of a request's first fault in the order of 60_exceptions.md rule R211, or 0. -/
def firstFaultOf (cfg : Params) (req : Request) : Nat :=
  match decode req with
  | .error _ => 6
  | .ok i => firstFault cfg i

/-- A sound state of the interface: the relations 10_state.md rule R27 and 70_reset_and_hazards.md rule R230 state
between `pending`, the outputs and `rst` (with log entries 3 and 9), a legal `MAX_OUTSTANDING`, and only sound responses waiting. -/
structure State.Inv (s : State) : Prop where
  legal : 1 ≤ s.cfg.maxOutstanding
  fits : s.pending.length ≤ s.cfg.maxOutstanding
  sound : ∀ r, r ∈ s.pending → r.Sound
  ready : s.reqReady = true ↔ s.pins.rst = false ∧ s.pending.length < s.cfg.maxOutstanding
  valid : s.rspValid = true ↔ s.pins.rst = false ∧ s.pending ≠ []
  head : ∀ r rest, s.rspValid = true → s.pending = r :: rest → s.rsp = r.word

/-- Every response word the block has answered and not lost: those delivered, then those waiting. -/
def State.answers (s : State) : List RspWord := s.delivered ++ s.pending.map Response.word

/-- The requests accepted in the first `n` steps, in order. -/
def acceptedOver : Nat → State → List Request
  | 0, _ => []
  | n + 1, s =>
    (if s.acceptEnabled then [s.pins.req] else []) ++
      match step s with
      | .next t => acceptedOver n t
      | _ => []

/-- No slot of the first `n` steps has `rst = 1`. -/
def resetFree : Nat → State → Prop
  | 0, _ => True
  | n + 1, s => s.pins.rst = false ∧ ∀ t, step s = .next t → resetFree n t

end Sys2Proof.Machine
end

