-- ==== Sys2Proof/Certificates/Slice0/Obligations.lean ====
section
/-! DEFINITION. The statements for the provers. Each says which rule of spec/ it formalises; `stated` ones say the rule
whole. -/

open Sys2Proof Sys2Proof.Machine

/-! ### The scalar encoders -/

/-- 40_scalar.md rule R101: the encoding, the byte inside the range, the fault outside it, and nothing else changed. -/
def Obligations.OneByteEmitsItsValueOrRangeError : Prop :=
  (∀ req, SelectsOpsel req 0x1 → decode req = .ok (.oneByte (req.extractLsb' 32 32).toInt)) ∧
  (∀ (v : Int) (s : State), 0 ≤ v → v ≤ 255 →
    ∃ r, exec (.oneByte v) s = .next { s with pending := s.pending ++ [r] } ∧ EmitsPayload r 0 [v.toNat]) ∧
  (∀ (v : Int) (s : State), v < 0 ∨ 255 < v →
    ∃ r, exec (.oneByte v) s = .next { s with pending := s.pending ++ [r] } ∧ RaisesCode r 1)

/-- 40_scalar.md rule R102: the encoding, the two bytes with the most significant first, the fault outside the range,
and nothing else changed. -/
def Obligations.TwoByteEmitsBigEndianOrRangeError : Prop :=
  (∀ req, SelectsOpsel req 0x2 → decode req = .ok (.twoByte (req.extractLsb' 32 32).toInt)) ∧
  (∀ (v : Int) (s : State), 0 ≤ v → v ≤ 65535 →
    ∃ r, exec (.twoByte v) s = .next { s with pending := s.pending ++ [r] } ∧
      EmitsPayload r 0 [v.toNat / 256, v.toNat % 256]) ∧
  (∀ (v : Int) (s : State), v < 0 ∨ 65535 < v →
    ∃ r, exec (.twoByte v) s = .next { s with pending := s.pending ++ [r] } ∧ RaisesCode r 1)

/-- 40_scalar.md rule R103: the encoding, the byte `a mod 256` inside the domain, the fault outside it, and nothing else
changed. -/
def Obligations.SignedAngleByteEmitsTwosComplementOrRangeError : Prop :=
  (∀ req, SelectsOpsel req 0x3 → decode req = .ok (.signedAngleByte (req.extractLsb' 32 32).toInt)) ∧
  (∀ (a : Int) (s : State), -127 ≤ a → a ≤ 127 →
    ∃ r, exec (.signedAngleByte a) s = .next { s with pending := s.pending ++ [r] } ∧
      EmitsPayload r 0 [(a % 256).toNat]) ∧
  (∀ (a : Int) (s : State), a < -127 ∨ 127 < a →
    ∃ r, exec (.signedAngleByte a) s = .next { s with pending := s.pending ++ [r] } ∧ RaisesCode r 1)

/-- 40_scalar.md rule R104: the payloads of TWO_BYTE and SIGNED_ANGLE_BYTE read back as their operands. -/
def Obligations.ScalarPayloadsReadBackTheirOperands : Prop :=
  (∀ (v : Int) (s : State), 0 ≤ v → v ≤ 65535 →
    ∃ r, exec (.twoByte v) s = .next { s with pending := s.pending ++ [r] } ∧
      (r.b0.toNat : Int) * 256 + r.b1.toNat = v) ∧
  (∀ (a : Int) (s : State), -127 ≤ a → a ≤ 127 →
    ∃ r, exec (.signedAngleByte a) s = .next { s with pending := s.pending ++ [r] } ∧ r.b0.toInt = a)

/-! ### The colour encoder -/

/-- 41_color.md rule R121: the encoding, the three clamped bytes under either tie rule, BAD_OPERAND on a zero
denominator, and nothing else changed. -/
def Obligations.ColorEmitsClampedChannelsOrBadOperand : Prop :=
  (∀ req, SelectsOpsel req 0x4 →
    decode req = .ok (.color ⟨(req.extractLsb' 96 32).toInt, (req.extractLsb' 128 32).toNat⟩
      ⟨(req.extractLsb' 160 32).toInt, (req.extractLsb' 192 32).toNat⟩
      ⟨(req.extractLsb' 224 32).toInt, (req.extractLsb' 256 32).toNat⟩)) ∧
  (∀ (q0 q1 q2 : RatPort) (s : State), q0.den ≠ 0 → q1.den ≠ 0 → q2.den ≠ 0 →
    ∃ r, exec (.color q0 q1 q2) s = .next { s with pending := s.pending ++ [r] } ∧
      ∃ n0 n1 n2 : ℤ,
        RoundsTo s.cfg.rounding ((q0.num : ℚ) / q0.den * 255) n0 ∧
        RoundsTo s.cfg.rounding ((q1.num : ℚ) / q1.den * 255) n1 ∧
        RoundsTo s.cfg.rounding ((q2.num : ℚ) / q2.den * 255) n2 ∧
        EmitsPayload r 0
          [(max 0 (min 255 n0)).toNat, (max 0 (min 255 n1)).toNat, (max 0 (min 255 n2)).toNat]) ∧
  (∀ (q0 q1 q2 : RatPort) (s : State), q0.den = 0 ∨ q1.den = 0 ∨ q2.den = 0 →
    ∃ r, exec (.color q0 q1 q2) s = .next { s with pending := s.pending ++ [r] } ∧ RaisesCode r 5)

/-- 41_color.md rule R122: one function of a channel and the tie rule gives each of the three bytes, each from its own
channel. -/
def Obligations.ColorChannelsAreComputedAlikeAndApart : Prop :=
  ∃ f : Rounding → RatPort → Byte, ∀ (q0 q1 q2 : RatPort) (s : State), q0.den ≠ 0 → q1.den ≠ 0 → q2.den ≠ 0 →
    ∃ r, exec (.color q0 q1 q2) s = .next { s with pending := s.pending ++ [r] } ∧
      r.b0 = f s.cfg.rounding q0 ∧ r.b1 = f s.cfg.rounding q1 ∧ r.b2 = f s.cfg.rounding q2

/-! ### The speed operations -/

/-- 42_motion_speed.md rule R132: the encoding, three zero bytes of the drive class in every state, the same response as
`DRIVE 0` and `DRIVE -2048`, and nothing else changed. -/
def Obligations.StopEmitsThreeZeroBytes : Prop :=
  (∀ req, SelectsOpsel req 0x5 → decode req = .ok .stop) ∧
  (∀ s : State, ∃ r, exec .stop s = .next { s with pending := s.pending ++ [r] } ∧ EmitsPayload r 1 [0, 0, 0]) ∧
  (∀ s : State, exec .stop s = exec (.drive 0) s ∧ exec .stop s = exec (.drive (-2048)) s)

/-- 42_motion_speed.md rules R130, R131 and R133: the encoding, and for every speed the clamp, the fold, the three
bytes, no fault, and nothing else changed. -/
def Obligations.DriveEmitsClampedFoldedSpeed : Prop :=
  (∀ req, SelectsOpsel req 0x6 → decode req = .ok (.drive (req.extractLsb' 32 32).toInt)) ∧
  (∀ (speed : Int) (s : State),
    ∃ r, exec (.drive speed) s = .next { s with pending := s.pending ++ [r] } ∧
      EmitsPayload r 1
        [(foldedSpeed speed).toNat &&& 0xFF, 0, ((foldedSpeed speed).toNat &&& 0x0F00) >>> 8])

/-- 42_motion_speed.md rules R134 and R136: the encoding, and for every speed the three bytes with the shift by 5 as
written, no fault, and nothing else changed. -/
def Obligations.SpinEmitsClampedFoldedSpeedShiftedByFive : Prop :=
  (∀ req, SelectsOpsel req 0x7 → decode req = .ok (.spin (req.extractLsb' 32 32).toInt)) ∧
  (∀ (speed : Int) (s : State),
    ∃ r, exec (.spin speed) s = .next { s with pending := s.pending ++ [r] } ∧
      EmitsPayload r 1
        [0, (foldedSpeed speed).toNat &&& 0xFF, ((foldedSpeed speed).toNat &&& 0xFF00) >>> 5])

/-- 30_encoding.md rule R75: STOP's bytes are zero; DRIVE carries `f` in `b0` and the low half of `b2`; SPIN carries `f`
in `b1` and bits 7:3 of `b2`, which is a multiple of 8 up to 0x40; and `f` lies in [0, 0x800]. The spec marks these bit
positions as its own inference ("the bit positions follow from the formulas of §4.4 and the range of `f`"), so the
statement is derived. The payload length and the command class are said in the statements of STOP, DRIVE and SPIN. -/
def Obligations.DriveClassPayloadCarriesTheFoldedSpeed : Prop :=
  (∀ speed : Int, 0 ≤ foldedSpeed speed ∧ foldedSpeed speed ≤ 0x800) ∧
  (∀ s : State, ∃ r, exec .stop s = .next { s with pending := s.pending ++ [r] } ∧ r.b0 = 0 ∧ r.b1 = 0 ∧ r.b2 = 0) ∧
  (∀ (speed : Int) (s : State),
    ∃ r, exec (.drive speed) s = .next { s with pending := s.pending ++ [r] } ∧ r.b1 = 0 ∧
      r.b2.extractLsb' 4 4 = 0#4 ∧ (r.b0.toNat : Int) + 256 * (r.b2.extractLsb' 0 4).toNat = foldedSpeed speed) ∧
  (∀ (speed : Int) (s : State),
    ∃ r, exec (.spin speed) s = .next { s with pending := s.pending ++ [r] } ∧ r.b0 = 0 ∧
      r.b2.extractLsb' 0 3 = 0#3 ∧ r.b2.toNat ≤ 0x40 ∧
      (r.b1.toNat : Int) + 256 * (r.b2.extractLsb' 3 5).toNat = foldedSpeed speed)

/-- 42_motion_speed.md rule R135: which clamped speeds share a payload, for DRIVE and for SPIN: two of them do exactly
when they are equal or differ by 2048 with the greater one below 2048, and the 4097 clamped speeds give 2049 payloads. -/
def Obligations.SpeedPayloadsCollideExactlyByTheFold : Prop :=
  (∀ a b : Int, -2048 ≤ a → a ≤ 2048 → -2048 ≤ b → b ≤ 2048 →
    (driveResponse a = driveResponse b ↔ a = b ∨ (a = b + 2048 ∧ a < 2048) ∨ (b = a + 2048 ∧ b < 2048)) ∧
    (spinResponse a = spinResponse b ↔ a = b ∨ (a = b + 2048 ∧ a < 2048) ∨ (b = a + 2048 ∧ b < 2048))) ∧
  ((Finset.Icc (-2048 : Int) 2048).image driveResponse).card = 2049 ∧
  ((Finset.Icc (-2048 : Int) 2048).image spinResponse).card = 2049

/-! ### Rounding and angles -/

/-- 00_scope.md rule R10: the model's rounding is the nearest integer with ties as `ROUNDING` says, and the rule names
only one such integer. -/
def Obligations.RoundingIsNearestWithTheNamedTie : Prop :=
  ∀ (mode : Rounding) (x : ℚ) (n : ℤ), RoundsTo mode x n ↔ n = roundRat mode x

/-- 00_scope.md rule R9: the masking the model uses is the bitwise AND of the integer with the mask. -/
def Obligations.MaskingIsTheBitwiseAndOfIntegers : Prop :=
  ∀ (x : Int) (m : BitVec 16), (andMask x m : Int) = Int.land x (m.toNat : Int) ∧
    ∀ k, 16 ≤ k → andMask x m = (x % 2 ^ k).toNat &&& m.toNat

/-- 43_motion_pack.md rule R151, for every degree value the request bus can carry (rule R63; that a rational
stands for π is the model's choice, log entry 4): the result is the integer nearest to
`d × 5π / 9` with the real π; it is odd in `d`, 0 at 0, at least 2 in magnitude elsewhere, and negative exactly for
negative `d`. -/
def Obligations.CentiradiansAreNearestToTheExactAngle : Prop :=
  (∀ d : Int, -2147483648 ≤ d → d ≤ 2147483647 → NearestCentiradians d (centirad d)) ∧
  (∀ d : Int, d ≠ 0 → -2147483648 ≤ d → d ≤ 2147483647 →
    centirad (-d) = -centirad d ∧ 2 ≤ |centirad d| ∧ (centirad d < 0 ↔ d < 0)) ∧
  centirad 0 = 0

/-! ### The general packer, TURN and MOVE -/

/-- 43_motion_pack.md rule R155 with the layout of 30_encoding.md rule R76: the encoding; each fault in its order; the
eight bytes where no check fails, under either value of the parameters; and nothing else changed. -/
def Obligations.PackMoveFollowsTheGeneralPacker : Prop :=
  (∀ req, SelectsOpsel req 0xA →
    decode req = .ok (.packMove (req.extractLsb' 32 32).toInt (req.extractLsb' 64 32).toInt
      ⟨(req.extractLsb' 96 32).toInt, (req.extractLsb' 128 32).toNat⟩ (req.extractLsb' 16 8).toNat)) ∧
  (∀ (dist deg : Int) (q : RatPort) (mode : Nat) (s : State), q.den = 0 →
    ∃ r, exec (.packMove dist deg q mode) s = .next { s with pending := s.pending ++ [r] } ∧ RaisesCode r 5) ∧
  (∀ (dist deg : Int) (q : RatPort) (mode : Nat) (s : State), q.den ≠ 0 → dist ≠ 0 → deg ≠ 0 →
    ∃ r, exec (.packMove dist deg q mode) s = .next { s with pending := s.pending ++ [r] } ∧ RaisesCode r 2) ∧
  (∀ (dist deg : Int) (q : RatPort) (mode : Nat) (s : State), q.den ≠ 0 → dist = 0 ∨ deg = 0 →
    s.cfg.strictFields = true → 360 < |deg| →
    ∃ r, exec (.packMove dist deg q mode) s = .next { s with pending := s.pending ++ [r] } ∧ RaisesCode r 3) ∧
  (∀ (dist deg tm : Int) (q : RatPort) (mode : Nat) (s : State), q.den ≠ 0 → dist = 0 ∨ deg = 0 →
    s.cfg.strictFields = true → |deg| ≤ 360 → RoundsTo s.cfg.rounding ((q.num : ℚ) / q.den * 1000) tm →
    dist < -8192 ∨ 8191 < dist ∨ (q.num : ℚ) / q.den < 0 ∨ 65535 < tm →
    ∃ r, exec (.packMove dist deg q mode) s = .next { s with pending := s.pending ++ [r] } ∧ RaisesCode r 1) ∧
  (∀ (dist deg c tm : Int) (q : RatPort) (mode : Nat) (s : State), q.den ≠ 0 → dist = 0 ∨ deg = 0 →
    (Instr.packMove dist deg q mode).wellFormed = true →
    RoundsTo s.cfg.rounding ((q.num : ℚ) / q.den * 1000) tm → NearestCentiradians deg c →
    (s.cfg.strictFields = true →
      |deg| ≤ 360 ∧ -8192 ≤ dist ∧ dist ≤ 8191 ∧ 0 ≤ (q.num : ℚ) / q.den ∧ tm ≤ 65535) →
    ∃ r, exec (.packMove dist deg q mode) s = .next { s with pending := s.pending ++ [r] } ∧
      EmitsPayload r 2 (moveClassBytes dist c tm mode))

/-- 43_motion_pack.md rule R158: without `STRICT_FIELDS` no range check is left, a distance counts modulo 2^14 and a
duration modulo 2^16. -/
def Obligations.LiteralPackerWrapsDistanceAndDuration : Prop :=
  ∀ (dist dist' deg tm tm' : Int) (q q' : RatPort) (mode : Nat) (s : State), s.cfg.strictFields = false →
    q.den ≠ 0 → q'.den ≠ 0 → dist = 0 ∨ deg = 0 → dist' = 0 ∨ deg = 0 →
    RoundsTo s.cfg.rounding ((q.num : ℚ) / q.den * 1000) tm →
    RoundsTo s.cfg.rounding ((q'.num : ℚ) / q'.den * 1000) tm' →
    dist % 16384 = dist' % 16384 → tm % 65536 = tm' % 65536 →
    ∃ r, r.status = 0 ∧ exec (.packMove dist deg q mode) s = .next { s with pending := s.pending ++ [r] } ∧
      exec (.packMove dist' deg q' mode) s = .next { s with pending := s.pending ++ [r] }

/-- 43_motion_pack.md rule R157 and what follows from it: under `STRICT_FIELDS` the eight bytes of a successful PACK_MOVE
determine its distance, its whole degrees, its duration in milliseconds and its mode byte. -/
def Obligations.StrictPackMovePayloadDeterminesItsArguments : Prop :=
  ∀ (cfg : Params) (dist dist' deg deg' tm tm' : Int) (q q' : RatPort) (mode mode' : Nat),
    cfg.strictFields = true →
    (Instr.packMove dist deg q mode).wellFormed = true → (Instr.packMove dist' deg' q' mode').wellFormed = true →
    RoundsTo cfg.rounding ((q.num : ℚ) / q.den * 1000) tm →
    RoundsTo cfg.rounding ((q'.num : ℚ) / q'.den * 1000) tm' →
    (packMoveResponse cfg dist deg q mode).status = 0 →
    packMoveResponse cfg dist deg q mode = packMoveResponse cfg dist' deg' q' mode' →
    dist = dist' ∧ deg = deg' ∧ tm = tm' ∧ mode = mode'

/-- 43_motion_pack.md rule R160: the encoding; each fault in its order; success without a byte for zero degrees whatever
the speed is; else the eight bytes for the distance 0, the angle, the duration `|degrees / speed|` and mode 0x80; and
nothing else changed. -/
def Obligations.TurnFollowsItsRule : Prop :=
  (∀ req, SelectsOpsel req 0x8 →
    decode req = .ok (.turn (req.extractLsb' 32 32).toInt ⟨(req.extractLsb' 96 32).toInt, (req.extractLsb' 128 32).toNat⟩)) ∧
  (∀ (deg : Int) (q : RatPort) (s : State), q.den = 0 →
    ∃ r, exec (.turn deg q) s = .next { s with pending := s.pending ++ [r] } ∧ RaisesCode r 5) ∧
  (∀ (deg : Int) (q : RatPort) (s : State), q.den ≠ 0 → 360 < |deg| →
    ∃ r, exec (.turn deg q) s = .next { s with pending := s.pending ++ [r] } ∧ RaisesCode r 3) ∧
  (∀ (q : RatPort) (s : State), q.den ≠ 0 →
    ∃ r, exec (.turn 0 q) s = .next { s with pending := s.pending ++ [r] } ∧ EmitsPayload r 0 []) ∧
  (∀ (deg : Int) (q : RatPort) (s : State), q.den ≠ 0 → deg ≠ 0 → |deg| ≤ 360 → q.num = 0 →
    ∃ r, exec (.turn deg q) s = .next { s with pending := s.pending ++ [r] } ∧ RaisesCode r 4) ∧
  (∀ (deg tm : Int) (q : RatPort) (s : State), q.den ≠ 0 → deg ≠ 0 → |deg| ≤ 360 → q.num ≠ 0 →
    RoundsTo s.cfg.rounding (|(deg : ℚ) / ((q.num : ℚ) / q.den)| * 1000) tm →
    s.cfg.strictFields = true → 65535 < tm →
    ∃ r, exec (.turn deg q) s = .next { s with pending := s.pending ++ [r] } ∧ RaisesCode r 1) ∧
  (∀ (deg c tm : Int) (q : RatPort) (s : State), q.den ≠ 0 → deg ≠ 0 → |deg| ≤ 360 → q.num ≠ 0 →
    RoundsTo s.cfg.rounding (|(deg : ℚ) / ((q.num : ℚ) / q.den)| * 1000) tm → NearestCentiradians deg c →
    (s.cfg.strictFields = true → tm ≤ 65535) →
    ∃ r, exec (.turn deg q) s = .next { s with pending := s.pending ++ [r] } ∧
      EmitsPayload r 2 (moveClassBytes 0 c tm 0x80))

/-- 43_motion_pack.md rule R161: the encoding; each fault in its order, a zero speed for every distance; else the eight
bytes for the distance, the angle 0, the duration `|distance / |speed||` and the mode; and nothing else changed. -/
def Obligations.MoveFollowsItsRule : Prop :=
  (∀ req, SelectsOpsel req 0x9 →
    decode req = .ok (.move (req.extractLsb' 32 32).toInt ⟨(req.extractLsb' 96 32).toInt, (req.extractLsb' 128 32).toNat⟩
      (req.getLsbD 8))) ∧
  (∀ (dist : Int) (q : RatPort) (noTurn : Bool) (s : State), q.den = 0 →
    ∃ r, exec (.move dist q noTurn) s = .next { s with pending := s.pending ++ [r] } ∧ RaisesCode r 5) ∧
  (∀ (dist : Int) (q : RatPort) (noTurn : Bool) (s : State), q.den ≠ 0 → q.num = 0 →
    ∃ r, exec (.move dist q noTurn) s = .next { s with pending := s.pending ++ [r] } ∧ RaisesCode r 4) ∧
  (∀ (dist tm : Int) (q : RatPort) (noTurn : Bool) (s : State), q.den ≠ 0 → q.num ≠ 0 →
    RoundsTo s.cfg.rounding (|(dist : ℚ) / abs ((q.num : ℚ) / q.den)| * 1000) tm →
    s.cfg.strictFields = true → dist < -8192 ∨ 8191 < dist ∨ 65535 < tm →
    ∃ r, exec (.move dist q noTurn) s = .next { s with pending := s.pending ++ [r] } ∧ RaisesCode r 1) ∧
  (∀ (dist tm : Int) (q : RatPort) (noTurn : Bool) (s : State), q.den ≠ 0 → q.num ≠ 0 →
    RoundsTo s.cfg.rounding (|(dist : ℚ) / abs ((q.num : ℚ) / q.den)| * 1000) tm →
    (s.cfg.strictFields = true → -8192 ≤ dist ∧ dist ≤ 8191 ∧ tm ≤ 65535) →
    ∃ r, exec (.move dist q noTurn) s = .next { s with pending := s.pending ++ [r] } ∧
      EmitsPayload r 2 (moveClassBytes dist 0 tm (if noTurn = true ∧ dist < 0 then 0x81 else 0x80)))

/-- 43_motion_pack.md rule R162: the eighth byte of every payload of the move class. -/
def Obligations.EighthByteIsTheModeOfTheOperation : Prop :=
  ∀ (cfg : Params) (i : Instr), i.wellFormed = true → (responseOf cfg i).cmd = 2 →
    (∃ deg q, i = .turn deg q ∧ (responseOf cfg i).b7 = 0x80) ∨
    (∃ dist q noTurn, i = .move dist q noTurn ∧
      ((responseOf cfg i).b7 = 0x81 ∨ (responseOf cfg i).b7 = 0x80) ∧
      ((responseOf cfg i).b7 = 0x81 ↔ noTurn = true ∧ dist < 0)) ∨
    (∃ dist deg q mode, i = .packMove dist deg q mode ∧ (responseOf cfg i).b7.toNat = mode)

/-- 30_encoding.md rule R64: two ports with the same value give the same outcome in every operation that reads them. -/
def Obligations.OnlyTheValueOfARationalPortMatters : Prop :=
  ∀ (q q' : RatPort), q.den ≠ 0 → q'.den ≠ 0 → q.num * q'.den = q'.num * q.den →
    ∀ (s : State) (a b : Int) (p r : RatPort) (flag : Bool) (mode : Nat),
      exec (.color q p r) s = exec (.color q' p r) s ∧
      exec (.color p q r) s = exec (.color p q' r) s ∧
      exec (.color p r q) s = exec (.color p r q') s ∧
      exec (.turn a q) s = exec (.turn a q') s ∧
      exec (.move a q flag) s = exec (.move a q' flag) s ∧
      exec (.packMove a b q mode) s = exec (.packMove a b q' mode) s

/-! ### Responses and faults -/

/-- 60_exceptions.md rule R211: of the faults that apply to a request, the first in the rule's order is the one raised,
and a request to which none applies succeeds. -/
def Obligations.TheFirstFaultInPriorityOrderIsRaised : Prop :=
  ∀ (cfg : Params) (req : Request), (respond cfg req).status.toNat = firstFaultOf cfg req

/-- 60_exceptions.md rules R203, R206 and R208: the operations and operands that raise CONFLICTING_PARAMETERS, BAD_OPERAND
and ZERO_SPEED, and no others; and each of these responses holds its code and nothing else. -/
def Obligations.ConflictBadOperandAndZeroSpeedHaveExactlyTheirCauses : Prop :=
  ∀ (cfg : Params) (i : Instr),
    ((responseOf cfg i).status.toNat = 2 ↔
      ∃ dist deg q mode, i = .packMove dist deg q mode ∧ q.den ≠ 0 ∧ dist ≠ 0 ∧ deg ≠ 0) ∧
    ((responseOf cfg i).status.toNat = 5 ↔
      (∃ q0 q1 q2, i = .color q0 q1 q2 ∧ (q0.den = 0 ∨ q1.den = 0 ∨ q2.den = 0)) ∨
      (∃ deg q, i = .turn deg q ∧ q.den = 0) ∨
      (∃ dist q noTurn, i = .move dist q noTurn ∧ q.den = 0) ∨
      (∃ dist deg q mode, i = .packMove dist deg q mode ∧ q.den = 0)) ∧
    ((responseOf cfg i).status.toNat = 4 ↔
      (∃ deg q, i = .turn deg q ∧ q.den ≠ 0 ∧ deg ≠ 0 ∧ |deg| ≤ 360 ∧ q.num = 0) ∨
      (∃ dist q noTurn, i = .move dist q noTurn ∧ q.den ≠ 0 ∧ q.num = 0)) ∧
    ∀ code, code = 2 ∨ code = 4 ∨ code = 5 → (responseOf cfg i).status.toNat = code → RaisesCode (responseOf cfg i) code

/-- 60_exceptions.md rule R204: TURN beyond 360 degrees raises ROTATION_LIMIT_EXCEEDED under either value of
`STRICT_FIELDS`, PACK_MOVE only with `STRICT_FIELDS`, and no other operation does; the response holds the code alone. -/
def Obligations.RotationLimitHasExactlyItsCauses : Prop :=
  ∀ (cfg : Params) (i : Instr),
    ((responseOf cfg i).status.toNat = 3 ↔
      (∃ deg q, i = .turn deg q ∧ q.den ≠ 0 ∧ 360 < |deg|) ∨
      (∃ dist deg q mode, i = .packMove dist deg q mode ∧ q.den ≠ 0 ∧ (dist = 0 ∨ deg = 0) ∧
        cfg.strictFields = true ∧ 360 < |deg|)) ∧
    ((responseOf cfg i).status.toNat = 3 → RaisesCode (responseOf cfg i) 3)

/-- 60_exceptions.md rule R207 with 30_encoding.md rules R62 and R72: a request raises ILLEGAL_REQUEST exactly when a
reserved control bit is 1 or OPSEL is 0x0 or 0xB to 0xF. -/
def Obligations.IllegalRequestIsRaisedExactlyForReservedEncodings : Prop :=
  ∀ (cfg : Params) (req : Request),
    (RaisesCode (respond cfg req) 6 ↔
      req.extractLsb' 4 4 ≠ 0#4 ∨ req.extractLsb' 9 7 ≠ 0#7 ∨ req.extractLsb' 24 8 ≠ 0#8 ∨
      (req.extractLsb' 0 4).toNat = 0x0 ∨ 0xB ≤ (req.extractLsb' 0 4).toNat) ∧
    ((respond cfg req).status.toNat = 6 → RaisesCode (respond cfg req) 6)

/-- 60_exceptions.md rule R209, 30_encoding.md rules R67 and R70: STATUS codes 7 to 15 and CMD 3 are never produced, RSVR
is 0, LEN is at most 8 and the bytes from LEN on are 0. -/
def Obligations.EveryResponseIsSound : Prop :=
  ∀ (cfg : Params) (req : Request), (respond cfg req).Sound

/-- 20_memory.md rule R44: the payload length of each operation, and no byte from a faulting one. -/
def Obligations.PayloadLengthsAreTheTable : Prop :=
  ∀ (cfg : Params) (req : Request),
    ((respond cfg req).status ≠ 0 → (respond cfg req).len = 0) ∧
    ∀ i, decode req = .ok i → (respond cfg req).status = 0 → (respond cfg req).len.toNat =
      match i with
      | .oneByte _ => 1
      | .twoByte _ => 2
      | .signedAngleByte _ => 1
      | .color _ _ _ => 3
      | .stop => 3
      | .drive _ => 3
      | .spin _ => 3
      | .turn degrees _ => if degrees = 0 then 0 else 8
      | .move _ _ _ => 8
      | .packMove _ _ _ _ => 8

/-- 30_encoding.md rule R70: the command class of each operation's response, and 0 for every fault. -/
def Obligations.CommandClassesAreTheTable : Prop :=
  ∀ (cfg : Params) (req : Request),
    ((respond cfg req).status ≠ 0 → (respond cfg req).cmd.toNat = 0) ∧
    ∀ i, decode req = .ok i → (respond cfg req).status = 0 → (respond cfg req).cmd.toNat =
      match i with
      | .oneByte _ => 0
      | .twoByte _ => 0
      | .signedAngleByte _ => 0
      | .color _ _ _ => 0
      | .stop => 1
      | .drive _ => 1
      | .spin _ => 1
      | .turn degrees _ => if degrees = 0 then 0 else 2
      | .move _ _ _ => 2
      | .packMove _ _ _ _ => 2

/-- 30_encoding.md rule R67: where each field of a response stands in the 80-bit word; in the word of every request's
response RSVR is 0 and LEN is 0 to 8. -/
def Obligations.ResponseWordHasTheBusLayout : Prop :=
  (∀ r : Response,
    r.word.extractLsb' 0 4 = r.status ∧ r.word.extractLsb' 4 4 = r.len ∧ r.word.extractLsb' 8 2 = r.cmd ∧
    r.word.extractLsb' 10 6 = r.rsvr ∧ ∀ i, i < 8 → r.word.extractLsb' (16 + 8 * i) 8 = r.byteAt i) ∧
  ∀ (cfg : Params) (req : Request),
    (respond cfg req).word.extractLsb' 10 6 = 0#6 ∧ ((respond cfg req).word.extractLsb' 4 4).toNat ≤ 8

/-! ### Decoding and encoding -/

/-- Every operation that fits the bus is read back from the request written for it. -/
def Obligations.DecodeReadsBackEveryEncodedOperation : Prop :=
  ∀ i : Instr, i.wellFormed = true → decode (encode i) = .ok i

/-- 30_encoding.md rule R71: a request selects the operation with OPSEL `n` exactly when its control word matches `n`
under the mask, for `n` in 0x1 to 0xA; and a decoded operation's operands fit the bus. -/
def Obligations.OpselAloneSelectsTheOperation : Prop :=
  ∀ (req : Request) (n : Nat),
    ((∃ i, decode req = .ok i ∧ opselOf i = n) ↔ SelectsOpsel req n ∧ 1 ≤ n ∧ n ≤ 0xA) ∧
    ∀ i, decode req = .ok i → i.wellFormed = true

/-- 30_encoding.md rule R66: two requests that agree on OPSEL, the reserved bits and the fields the operation reads have
the same response, whatever the other fields hold. -/
def Obligations.FieldsNotReadHaveNoEffect : Prop :=
  ∀ (cfg : Params) (req req' : Request) (i : Instr), decode req = .ok i →
    req &&& readBits i = req' &&& readBits i → decode req' = .ok i ∧ respond cfg req' = respond cfg req

/-- 30_encoding.md rule R78: the assembler makes a request for exactly the operations whose operands fit, it decodes to the
operation, and every field the operation does not read is 0; `.req` is placed unchanged. -/
def Obligations.AssemblerPlacesOperandsAndZeroesTheRest : Prop :=
  (∀ i : Instr, assemble (.op i) = none ↔ i.wellFormed = false) ∧
  (∀ (i : Instr) (w : Request), assemble (.op i) = some w → decode w = .ok i ∧ w &&& ~~~(readBits i) = 0#288) ∧
  ∀ w : Request, assemble (.req w) = some w

/-- Words written out from the encoding tables decode to the operations they stand for (95_test_vectors.md P1, P2, P4). -/
def Obligations.WordsOfTheSpecDecodeAsTheyRead : Prop :=
  decode 0x0000000000000000000000000000000000000000000000000000000000001FFF00000002#288 = .ok (.twoByte 8191) ∧
  decode 0x0000000100000000000000FF000000800000000100000001000000000000000000000004#288 =
    .ok (.color ⟨1, 1⟩ ⟨128, 255⟩ ⟨0, 1⟩) ∧
  decode 0x00000000000000000000000000000000000000000000000000000000FFFFFF3800000007#288 = .ok (.spin (-200)) ∧
  decode 0x0000000000000000000000000000000000000001000003E800000000FFFFFFCE00000109#288 =
    .ok (.move (-50) ⟨1000, 1⟩ true) ∧
  decode 0x0000000000000000000000000000000000000001000000010000002D000000640080000A#288 =
    .ok (.packMove 100 45 ⟨1, 1⟩ 0x80)

/-! ### The interface -/

/-- A step runs the decoded instruction: where a request is accepted, the step is `exec` of the operation it decodes to,
followed by the close of the slot (a delivery whose handshake is complete, then the pins and outputs of the next slot;
that a step is one such slot is the model's choice, log entries 2 and 3). -/
def Obligations.AcceptingStepRunsTheDecodedInstruction : Prop :=
  ∀ (s t : State) (i : Instr), s.pins.rst = false → s.handshakeBroken = false → s.pins.reqValid = true →
    s.reqReady = true → decode s.pins.req = .ok i → exec i s = .next t → step s = .next t.closeSlot

/-- 10_state.md rules R20 and R28: in a slot with `rst = 0` and the handshake kept, the step is `accept` of the request's
own response where REQ_VALID and REQ_READY are 1, and `deliver` where RSP_VALID and RSP_READY are 1; and `pending` and
what the consumer holds change in no other way. That one slot may do both is the model's choice (log entry 7). -/
def Obligations.StepIsAcceptAndDeliver : Prop :=
  ∀ s : State, s.Inv → s.pins.rst = false → s.handshakeBroken = false →
    ∃ t, step s = .next t ∧ t.cfg = s.cfg ∧
      t.pending = (if s.rspValid = true ∧ s.pins.rspReady = true then s.pending.tail else s.pending) ++
        (if s.pins.reqValid = true ∧ s.reqReady = true then [respond s.cfg s.pins.req] else []) ∧
      t.delivered = s.delivered ++
        (if s.rspValid = true ∧ s.pins.rspReady = true then (s.pending.take 1).map Response.word else [])

/-- Every step keeps the sound states of the interface (10_state.md rule R27), from any sound state, with any inputs. That a
waiting response is offered from the slot after its acceptance on is the model's choice (log entry 3). -/
def Obligations.EveryStepKeepsTheInterfaceSound : Prop :=
  ∀ s t : State, s.Inv → step s = .next t → t.Inv

/-- The state after reset is a sound state of the interface (its quiet inputs are the model's choice, log entry 2). -/
def Obligations.ResetStateIsSound : Prop := State.reset.Inv

/-- 70_reset_and_hazards.md rules R230 and R231: a slot with `rst = 1` accepts and delivers nothing and leaves `pending`
empty, RSP_VALID 0, RSP all zero, and REQ_READY 1 exactly when the next slot has `rst = 0`. -/
def Obligations.ResetSlotEmptiesTheInterface : Prop :=
  ∀ s : State, s.pins.rst = true → 1 ≤ s.cfg.maxOutstanding →
    ∃ t, step s = .next t ∧ t.pending = [] ∧ t.rspValid = false ∧ t.rsp = 0 ∧
      (t.reqReady = true ↔ t.pins.rst = false) ∧ t.delivered = s.delivered ∧ t.cfg = s.cfg

/-- 70_reset_and_hazards.md rule R232: the first request can be accepted in the first slot with `rst = 0`, and its
response is the one the request has at any time. That it stands on RSP in the slot after is the model's choice (log
entry 3). -/
def Obligations.FirstRequestIsAcceptedRightAfterReset : Prop :=
  ∀ s t : State, s.pins.rst = true → 1 ≤ s.cfg.maxOutstanding → step s = .next t → t.pins.rst = false →
    t.pins.reqValid = true →
    ∃ u, step t = .next u ∧ u.pending = [respond s.cfg t.pins.req] ∧
      (u.pins.rst = false → u.rspValid = true ∧ u.rsp = (respond s.cfg t.pins.req).word)

/-- 70_reset_and_hazards.md rule R236, point 2: a response on offer stays on offer, every bit of it unchanged, until the
consumer takes it. -/
def Obligations.OfferedResponseIsHeldUntilDelivered : Prop :=
  ∀ s t : State, s.Inv → s.rspValid = true → s.pins.rspReady = false → step s = .next t → t.pins.rst = false →
    t.rspValid = true ∧ t.rsp = s.rsp

/-- 70_reset_and_hazards.md rule R236, point 1: a request that was offered and not accepted must still be offered in the
next slot, a step refuses exactly the states where it is not, and every other step answers a next state. That a slot
with `rst = 1` ends the obligation is the model's choice (log entry 6). -/
def Obligations.OnlyABrokenHandshakeIsRefused : Prop :=
  (∀ s : State, (∃ q, s.offered = some q ∧ s.pins.rst = false ∧ ¬(s.pins.reqValid = true ∧ s.pins.req = q)) →
    step s = .refused .handshakeBroken) ∧
  (∀ s : State, ¬(∃ q, s.offered = some q ∧ s.pins.rst = false ∧ ¬(s.pins.reqValid = true ∧ s.pins.req = q)) →
    ∃ t, step s = .next t) ∧
  (∀ s t : State, step s = .next t →
    (t.offered = some s.pins.req ↔ s.pins.rst = false ∧ s.pins.reqValid = true ∧ s.reqReady = false) ∧
    (t.offered = none ∨ t.offered = some s.pins.req))

/-- 70_reset_and_hazards.md rule R234: no step changes a static parameter. -/
def Obligations.NoStepChangesTheParameters : Prop :=
  ∀ s t : State, step s = .next t → t.cfg = s.cfg

/-- 20_memory.md rule R49: over any run without reset, the words delivered and waiting at the end are those at the start
followed by the responses of the accepted requests, each the function of its own request, in the order of acceptance. -/
def Obligations.AnswersComeInTheOrderOfAcceptance : Prop :=
  ∀ (n : Nat) (s t : State), s.Inv → resetFree n s → Sys2Proof.core.run n s = .next t →
    t.answers = s.answers ++ (acceptedOver n s).map fun req => (respond s.cfg req).word

/-- 10_state.md rule R20: two blocks with the same `STRICT_FIELDS` and `ROUNDING` that accept the same request, whatever
else differs between them, put the same response last in `pending`. -/
def Obligations.ResponseDependsOnTheRequestAlone : Prop :=
  ∀ s s' t t' : State, s.Inv → s'.Inv → s.cfg.strictFields = s'.cfg.strictFields →
    s.cfg.rounding = s'.cfg.rounding → s.pins.req = s'.pins.req →
    s.acceptEnabled = true → s'.acceptEnabled = true → step s = .next t → step s' = .next t' →
    ∃ r, t.pending.getLast? = some r ∧ t'.pending.getLast? = some r ∧ r = respond s.cfg s.pins.req
end

