-- ==== Sys2Proof/Laws/Decode.lean ====
section
/-! SUPPORT. Each field of a request that `requestOf` builds is the value it was built from. -/

namespace Sys2Proof

section
variable (op : BitVec 4) (flag : Bool) (mode : BitVec 8) (i0 i1 : Int) (q0 q1 q2 : RatPort)

/-- The fields side by side at the width their lengths add up to. -/
def fieldsOf : BitVec (64 + 64 + 64 + 32 + 32 + 8 + 8 + 7 + 1 + 4 + 4) :=
  q2.bits ++ q1.bits ++ q0.bits ++ BitVec.ofInt 32 i1 ++ BitVec.ofInt 32 i0 ++ 0#8 ++ mode ++ 0#7 ++
    BitVec.ofBool flag ++ 0#4 ++ op

theorem requestOf_eq_fieldsOf : requestOf op flag mode i0 i1 q0 q1 q2 = fieldsOf op flag mode i0 i1 q0 q1 q2 := rfl

@[simp] theorem requestOf_opsel : (requestOf op flag mode i0 i1 q0 q1 q2).opsel = op := by
  show BitVec.extractLsb' 0 4 (fieldsOf op flag mode i0 i1 q0 q1 q2) = _
  unfold fieldsOf
  rw [BitVec.extractLsb'_append_eq_of_add_le (by decide)]
  exact BitVec.extractLsb'_eq_self

@[simp] theorem requestOf_rsv0 : (requestOf op flag mode i0 i1 q0 q1 q2).rsv0 = 0 := by
  show BitVec.extractLsb' 4 4 (fieldsOf op flag mode i0 i1 q0 q1 q2) = _
  unfold fieldsOf
  repeat rw [BitVec.extractLsb'_append_eq_of_le (by decide)]
  rw [BitVec.extractLsb'_append_eq_of_add_le (by decide)]
  exact BitVec.extractLsb'_eq_self

@[simp] theorem requestOf_rsv1 : (requestOf op flag mode i0 i1 q0 q1 q2).rsv1 = 0 := by
  show BitVec.extractLsb' 9 7 (fieldsOf op flag mode i0 i1 q0 q1 q2) = _
  unfold fieldsOf
  repeat rw [BitVec.extractLsb'_append_eq_of_le (by decide)]
  rw [BitVec.extractLsb'_append_eq_of_add_le (by decide)]
  exact BitVec.extractLsb'_eq_self

@[simp] theorem requestOf_mode : (requestOf op flag mode i0 i1 q0 q1 q2).mode = mode := by
  show BitVec.extractLsb' 16 8 (fieldsOf op flag mode i0 i1 q0 q1 q2) = _
  unfold fieldsOf
  repeat rw [BitVec.extractLsb'_append_eq_of_le (by decide)]
  rw [BitVec.extractLsb'_append_eq_of_add_le (by decide)]
  exact BitVec.extractLsb'_eq_self

@[simp] theorem requestOf_rsv2 : (requestOf op flag mode i0 i1 q0 q1 q2).rsv2 = 0 := by
  show BitVec.extractLsb' 24 8 (fieldsOf op flag mode i0 i1 q0 q1 q2) = _
  unfold fieldsOf
  repeat rw [BitVec.extractLsb'_append_eq_of_le (by decide)]
  rw [BitVec.extractLsb'_append_eq_of_add_le (by decide)]
  exact BitVec.extractLsb'_eq_self

@[simp] theorem requestOf_flag : (requestOf op flag mode i0 i1 q0 q1 q2).flag = flag := by
  show BitVec.getLsbD (fieldsOf op flag mode i0 i1 q0 q1 q2) 8 = _
  simp only [fieldsOf, BitVec.getLsbD_append]
  cases flag <;> rfl

@[simp] theorem requestOf_i0 : (requestOf op flag mode i0 i1 q0 q1 q2).i0 = (BitVec.ofInt 32 i0).toInt := by
  show (BitVec.extractLsb' 32 32 (fieldsOf op flag mode i0 i1 q0 q1 q2)).toInt = _
  congr 1
  unfold fieldsOf
  repeat rw [BitVec.extractLsb'_append_eq_of_le (by decide)]
  rw [BitVec.extractLsb'_append_eq_of_add_le (by decide)]
  exact BitVec.extractLsb'_eq_self

@[simp] theorem requestOf_i1 : (requestOf op flag mode i0 i1 q0 q1 q2).i1 = (BitVec.ofInt 32 i1).toInt := by
  show (BitVec.extractLsb' 64 32 (fieldsOf op flag mode i0 i1 q0 q1 q2)).toInt = _
  congr 1
  unfold fieldsOf
  repeat rw [BitVec.extractLsb'_append_eq_of_le (by decide)]
  rw [BitVec.extractLsb'_append_eq_of_add_le (by decide)]
  exact BitVec.extractLsb'_eq_self

/-- A port as its two 32-bit fields give it back. -/
def RatPort.onBus (q : RatPort) : RatPort :=
  { num := (BitVec.ofInt 32 q.num).toInt, den := (BitVec.ofNat 32 q.den).toNat }

@[simp] theorem requestOf_q0 : (requestOf op flag mode i0 i1 q0 q1 q2).q0 = q0.onBus := by
  show RatPort.mk (BitVec.extractLsb' 96 32 (fieldsOf op flag mode i0 i1 q0 q1 q2)).toInt
    (BitVec.extractLsb' 128 32 (fieldsOf op flag mode i0 i1 q0 q1 q2)).toNat = _
  have hnum : BitVec.extractLsb' 96 32 (fieldsOf op flag mode i0 i1 q0 q1 q2) = BitVec.ofInt 32 q0.num := by
    unfold fieldsOf
    repeat rw [BitVec.extractLsb'_append_eq_of_le (by decide)]
    rw [BitVec.extractLsb'_append_eq_of_add_le (by decide)]
    unfold RatPort.bits
    rw [BitVec.extractLsb'_append_eq_of_add_le (by decide)]
    exact BitVec.extractLsb'_eq_self
  have hden : BitVec.extractLsb' 128 32 (fieldsOf op flag mode i0 i1 q0 q1 q2) = BitVec.ofNat 32 q0.den := by
    unfold fieldsOf
    repeat rw [BitVec.extractLsb'_append_eq_of_le (by decide)]
    rw [BitVec.extractLsb'_append_eq_of_add_le (by decide)]
    unfold RatPort.bits
    rw [BitVec.extractLsb'_append_eq_of_le (by decide)]
    exact BitVec.extractLsb'_eq_self
  rw [hnum, hden, RatPort.onBus]

@[simp] theorem requestOf_q1 : (requestOf op flag mode i0 i1 q0 q1 q2).q1 = q1.onBus := by
  show RatPort.mk (BitVec.extractLsb' 160 32 (fieldsOf op flag mode i0 i1 q0 q1 q2)).toInt
    (BitVec.extractLsb' 192 32 (fieldsOf op flag mode i0 i1 q0 q1 q2)).toNat = _
  have hnum : BitVec.extractLsb' 160 32 (fieldsOf op flag mode i0 i1 q0 q1 q2) = BitVec.ofInt 32 q1.num := by
    unfold fieldsOf
    repeat rw [BitVec.extractLsb'_append_eq_of_le (by decide)]
    rw [BitVec.extractLsb'_append_eq_of_add_le (by decide)]
    unfold RatPort.bits
    rw [BitVec.extractLsb'_append_eq_of_add_le (by decide)]
    exact BitVec.extractLsb'_eq_self
  have hden : BitVec.extractLsb' 192 32 (fieldsOf op flag mode i0 i1 q0 q1 q2) = BitVec.ofNat 32 q1.den := by
    unfold fieldsOf
    repeat rw [BitVec.extractLsb'_append_eq_of_le (by decide)]
    rw [BitVec.extractLsb'_append_eq_of_add_le (by decide)]
    unfold RatPort.bits
    rw [BitVec.extractLsb'_append_eq_of_le (by decide)]
    exact BitVec.extractLsb'_eq_self
  rw [hnum, hden, RatPort.onBus]

@[simp] theorem requestOf_q2 : (requestOf op flag mode i0 i1 q0 q1 q2).q2 = q2.onBus := by
  show RatPort.mk (BitVec.extractLsb' 224 32 (fieldsOf op flag mode i0 i1 q0 q1 q2)).toInt
    (BitVec.extractLsb' 256 32 (fieldsOf op flag mode i0 i1 q0 q1 q2)).toNat = _
  have hnum : BitVec.extractLsb' 224 32 (fieldsOf op flag mode i0 i1 q0 q1 q2) = BitVec.ofInt 32 q2.num := by
    unfold fieldsOf
    repeat rw [BitVec.extractLsb'_append_eq_of_le (by decide)]
    unfold RatPort.bits
    rw [BitVec.extractLsb'_append_eq_of_add_le (by decide)]
    exact BitVec.extractLsb'_eq_self
  have hden : BitVec.extractLsb' 256 32 (fieldsOf op flag mode i0 i1 q0 q1 q2) = BitVec.ofNat 32 q2.den := by
    unfold fieldsOf
    repeat rw [BitVec.extractLsb'_append_eq_of_le (by decide)]
    unfold RatPort.bits
    rw [BitVec.extractLsb'_append_eq_of_le (by decide)]
    exact BitVec.extractLsb'_eq_self
  rw [hnum, hden, RatPort.onBus]

/-- The lowest 32 bits of a request under the mask of 30_encoding.md rule R71: what is left is `OPSEL`. -/
theorem requestOf_control :
    (requestOf op flag mode i0 i1 q0 q1 q2).extractLsb' 0 32 &&& 0xFF00FEFF#32 = op.setWidth 32 := by
  have hlow : (requestOf op flag mode i0 i1 q0 q1 q2).extractLsb' 0 32 =
      0#8 ++ mode ++ 0#7 ++ BitVec.ofBool flag ++ 0#4 ++ op := by
    show BitVec.extractLsb' 0 32 (fieldsOf op flag mode i0 i1 q0 q1 q2) = _
    apply BitVec.eq_of_getLsbD_eq
    intro k hk
    simp only [fieldsOf, BitVec.getLsbD_extractLsb', BitVec.getLsbD_append, hk, decide_true, Bool.true_and, Nat.zero_add]
    interval_cases k <;> rfl
  rw [hlow]
  have hmask : ∀ (op : BitVec 4) (mode : BitVec 8) (flag : Bool),
      (0#8 ++ mode ++ 0#7 ++ BitVec.ofBool flag ++ 0#4 ++ op) &&& 0xFF00FEFF#32 = op.setWidth 32 := by
    decide +kernel
  exact hmask op mode flag

end

/-- A number that fits an `s32` field is read back from it. -/
theorem ofInt32_toInt (v : Int) (h : fitsS32 v = true) : (BitVec.ofInt 32 v).toInt = v := by
  simp only [fitsS32, decide_eq_true_eq] at h
  rw [BitVec.toInt_ofInt]
  exact Int.bmod_eq_of_le (by omega) (by omega)

/-- A number that fits a `u32` field is read back from it. -/
theorem ofNat32_toNat (v : Nat) (h : fitsU32 v = true) : (BitVec.ofNat 32 v).toNat = v := by
  simp only [fitsU32, decide_eq_true_eq] at h
  rw [BitVec.toNat_ofNat]
  omega

/-- A port whose fields fit is read back as it was written. -/
theorem RatPort.onBus_eq (q : RatPort) (h : q.wellFormed = true) : q.onBus = q := by
  simp only [RatPort.wellFormed, Bool.and_eq_true] at h
  rw [RatPort.onBus, ofInt32_toInt _ h.1, ofNat32_toNat _ h.2]

end Sys2Proof
end

