-- ==== Sys2Proof/Laws/Operands.lean ====
section
/-! SUPPORT. What the operand functions answer. -/

namespace Sys2Proof.Machine

/-- Masking works on the number modulo 2^16. -/
theorem andMask_eq (x : Int) (m : BitVec 16) : andMask x m = (x % 65536).toNat &&& m.toNat := by
  simp [andMask, BitVec.toNat_and, BitVec.toNat_ofInt]

theorem andMask_lt (x : Int) (m : BitVec 16) : andMask x m < 65536 := (BitVec.ofInt 16 x &&& m).isLt

theorem ratAbs_eq (x : ℚ) : ratAbs x = |x| := by
  unfold ratAbs
  split
  · rw [abs_of_neg ‹_›]
  · rw [abs_of_nonneg (not_lt.mp ‹_›)]

theorem clamp_eq (x lo hi : Int) : clamp x lo hi = max lo (min hi x) := rfl

/-- The table of 43_motion_pack.md rule R152, row by row: `centirad(d)` for `d` in [0, 360]. -/
theorem centirad_table_to_119 : (List.range 120).map (fun d => centirad d) =
    [0, 2, 3, 5, 7, 9, 10, 12, 14, 16, 17, 19, 21, 23, 24, 26, 28, 30, 31, 33, 35, 37, 38, 40, 42, 44, 45, 47,
     49, 51, 52, 54, 56, 58, 59, 61, 63, 65, 66, 68, 70, 72, 73, 75, 77, 79, 80, 82, 84, 86, 87, 89, 91, 93,
     94, 96, 98, 99, 101, 103, 105, 106, 108, 110, 112, 113, 115, 117, 119, 120, 122, 124, 126, 127, 129, 131,
     133, 134, 136, 138, 140, 141, 143, 145, 147, 148, 150, 152, 154, 155, 157, 159, 161, 162, 164, 166, 168,
     169, 171, 173, 175, 176, 178, 180, 182, 183, 185, 187, 188, 190, 192, 194, 195, 197, 199, 201, 202, 204,
     206, 208] := by decide +kernel

theorem centirad_table_to_239 : (List.range 120).map (fun d => centirad (d + 120)) =
    [209, 211, 213, 215, 216, 218, 220, 222, 223, 225, 227, 229, 230, 232, 234, 236, 237, 239, 241, 243, 244,
     246, 248, 250, 251, 253, 255, 257, 258, 260, 262, 264, 265, 267, 269, 271, 272, 274, 276, 278, 279, 281,
     283, 284, 286, 288, 290, 291, 293, 295, 297, 298, 300, 302, 304, 305, 307, 309, 311, 312, 314, 316, 318,
     319, 321, 323, 325, 326, 328, 330, 332, 333, 335, 337, 339, 340, 342, 344, 346, 347, 349, 351, 353, 354,
     356, 358, 360, 361, 363, 365, 367, 368, 370, 372, 374, 375, 377, 379, 380, 382, 384, 386, 387, 389, 391,
     393, 394, 396, 398, 400, 401, 403, 405, 407, 408, 410, 412, 414, 415, 417] := by decide +kernel

theorem centirad_table_to_360 : (List.range 121).map (fun d => centirad (d + 240)) =
    [419, 421, 422, 424, 426, 428, 429, 431, 433, 435, 436, 438, 440, 442, 443, 445, 447, 449, 450, 452, 454,
     456, 457, 459, 461, 463, 464, 466, 468, 469, 471, 473, 475, 476, 478, 480, 482, 483, 485, 487, 489, 490,
     492, 494, 496, 497, 499, 501, 503, 504, 506, 508, 510, 511, 513, 515, 517, 518, 520, 522, 524, 525, 527,
     529, 531, 532, 534, 536, 538, 539, 541, 543, 545, 546, 548, 550, 552, 553, 555, 557, 559, 560, 562, 564,
     565, 567, 569, 571, 572, 574, 576, 578, 579, 581, 583, 585, 586, 588, 590, 592, 593, 595, 597, 599, 600,
     602, 604, 606, 607, 609, 611, 613, 614, 616, 618, 620, 621, 623, 625, 627, 628] := by decide +kernel

end Sys2Proof.Machine
end

