-- ==== Sys2Proof/Laws/State.lean ====
section
/-! SUPPORT. One lemma per field per update of the state. -/

namespace Sys2Proof.Machine

section accept
variable (s : State) (r : Response)
@[simp] theorem accept_cfg : (s.accept r).cfg = s.cfg := rfl
@[simp] theorem accept_pending : (s.accept r).pending = s.pending ++ [r] := rfl
@[simp] theorem accept_rspValid : (s.accept r).rspValid = s.rspValid := rfl
@[simp] theorem accept_rsp : (s.accept r).rsp = s.rsp := rfl
@[simp] theorem accept_reqReady : (s.accept r).reqReady = s.reqReady := rfl
@[simp] theorem accept_pins : (s.accept r).pins = s.pins := rfl
@[simp] theorem accept_upcoming : (s.accept r).upcoming = s.upcoming := rfl
@[simp] theorem accept_offered : (s.accept r).offered = s.offered := rfl
@[simp] theorem accept_delivered : (s.accept r).delivered = s.delivered := rfl
@[simp] theorem accept_freeCount : (s.accept r).freeCount = s.freeCount := rfl
@[simp] theorem accept_acceptEnabled : (s.accept r).acceptEnabled = s.acceptEnabled := rfl
@[simp] theorem accept_deliverEnabled : (s.accept r).deliverEnabled = s.deliverEnabled := rfl
@[simp] theorem accept_nextPins : (s.accept r).nextPins = s.nextPins := rfl
@[simp] theorem accept_heldRequest : (s.accept r).heldRequest = s.heldRequest := rfl
end accept

section deliver
variable (s : State)
@[simp] theorem deliver_cfg : s.deliver.cfg = s.cfg := rfl
@[simp] theorem deliver_pending : s.deliver.pending = s.pending.tail := rfl
@[simp] theorem deliver_rspValid : s.deliver.rspValid = s.rspValid := rfl
@[simp] theorem deliver_rsp : s.deliver.rsp = s.rsp := rfl
@[simp] theorem deliver_reqReady : s.deliver.reqReady = s.reqReady := rfl
@[simp] theorem deliver_pins : s.deliver.pins = s.pins := rfl
@[simp] theorem deliver_upcoming : s.deliver.upcoming = s.upcoming := rfl
@[simp] theorem deliver_offered : s.deliver.offered = s.offered := rfl
@[simp] theorem deliver_delivered : s.deliver.delivered = s.delivered ++ [s.rsp] := rfl
@[simp] theorem deliver_freeCount : s.deliver.freeCount = s.freeCount := rfl
@[simp] theorem deliver_nextPins : s.deliver.nextPins = s.nextPins := rfl
@[simp] theorem deliver_heldRequest : s.deliver.heldRequest = s.heldRequest := rfl
end deliver

section advancePins
variable (s : State)
@[simp] theorem advancePins_cfg : s.advancePins.cfg = s.cfg := rfl
@[simp] theorem advancePins_pending : s.advancePins.pending = s.pending := rfl
@[simp] theorem advancePins_rspValid : s.advancePins.rspValid = s.rspValid := rfl
@[simp] theorem advancePins_rsp : s.advancePins.rsp = s.rsp := rfl
@[simp] theorem advancePins_reqReady : s.advancePins.reqReady = s.reqReady := rfl
@[simp] theorem advancePins_pins : s.advancePins.pins = s.nextPins.1 := rfl
@[simp] theorem advancePins_upcoming : s.advancePins.upcoming = s.nextPins.2 := rfl
@[simp] theorem advancePins_offered : s.advancePins.offered = s.heldRequest := rfl
@[simp] theorem advancePins_delivered : s.advancePins.delivered = s.delivered := rfl
@[simp] theorem advancePins_freeCount : s.advancePins.freeCount = s.freeCount := rfl
end advancePins

section driveOutputs
variable (s : State)
@[simp] theorem driveOutputs_cfg : s.driveOutputs.cfg = s.cfg := rfl
@[simp] theorem driveOutputs_pending : s.driveOutputs.pending = s.pending := rfl
@[simp] theorem driveOutputs_rspValid : s.driveOutputs.rspValid = s.validNow := rfl
@[simp] theorem driveOutputs_rsp : s.driveOutputs.rsp = s.rspNow := rfl
@[simp] theorem driveOutputs_reqReady : s.driveOutputs.reqReady = s.readyNow := rfl
@[simp] theorem driveOutputs_pins : s.driveOutputs.pins = s.pins := rfl
@[simp] theorem driveOutputs_upcoming : s.driveOutputs.upcoming = s.upcoming := rfl
@[simp] theorem driveOutputs_offered : s.driveOutputs.offered = s.offered := rfl
@[simp] theorem driveOutputs_delivered : s.driveOutputs.delivered = s.delivered := rfl
end driveOutputs

section clear
variable (s : State)
@[simp] theorem clear_cfg : s.clear.cfg = s.cfg := rfl
@[simp] theorem clear_pending : s.clear.pending = [] := rfl
@[simp] theorem clear_rspValid : s.clear.rspValid = false := rfl
@[simp] theorem clear_rsp : s.clear.rsp = 0 := rfl
@[simp] theorem clear_pins : s.clear.pins = s.pins := rfl
@[simp] theorem clear_upcoming : s.clear.upcoming = s.upcoming := rfl
@[simp] theorem clear_delivered : s.clear.delivered = s.delivered := rfl
@[simp] theorem clear_freeCount : s.clear.freeCount = s.freeCount := rfl
end clear

end Sys2Proof.Machine
end

