-- ==== Sys2Proof/Laws/Ops.lean ====
section
/-! SUPPORT. For each shared operation, one lemma that says all it can do. -/

namespace Sys2Proof.Machine

/-- All a `raise` can be. -/
theorem raise_spec (e : Status) : RaisesCode (raise e) e.code.toNat := by
  refine ⟨rfl, rfl, rfl, rfl, ?_⟩
  intro i hi
  interval_cases i <;> rfl

/-- Where a payload is at most eight bytes long and each number is a byte, `emit` loses nothing. -/
theorem emit_spec (cmd : CommandClass) (bytes : List Nat) (hlen : bytes.length ≤ 8) (hb : ∀ b, b ∈ bytes → b < 256) :
    EmitsPayload (emit cmd bytes) cmd.code.toNat bytes := by
  have hbyte : ∀ i, (payloadByte bytes i).toNat = bytes.getD i 0 := by
    intro i
    have : bytes.getD i 0 < 256 := by
      by_cases h : i < bytes.length
      · rw [List.getD_eq_getElem _ _ h]; exact hb _ (List.getElem_mem h)
      · rw [List.getD_eq_default _ _ (by omega)]; decide
    simp only [payloadByte, BitVec.toNat_ofNat]
    omega
  refine ⟨rfl, ?_, rfl, rfl, ?_⟩
  · simp only [emit, BitVec.toNat_ofNat]
    omega
  · intro i hi
    interval_cases i <;> exact hbyte _

/-- Every operation's whole effect on the state: its response joins `pending`. -/
theorem exec_eq_accept (i : Instr) (s : State) : exec i s = .next (s.accept (responseOf s.cfg i)) := by
  cases i <;> rfl

@[simp] theorem closeSlot_cfg (s : State) : s.closeSlot.cfg = s.cfg := by
  unfold State.closeSlot; split <;> rfl

@[simp] theorem closeSlot_pending (s : State) :
    s.closeSlot.pending = if s.deliverEnabled then s.pending.tail else s.pending := by
  unfold State.closeSlot; split <;> rfl

@[simp] theorem closeSlot_delivered (s : State) :
    s.closeSlot.delivered = if s.deliverEnabled then s.delivered ++ [s.rsp] else s.delivered := by
  unfold State.closeSlot; split <;> rfl

@[simp] theorem closeSlot_pins (s : State) : s.closeSlot.pins = s.nextPins.1 := by
  unfold State.closeSlot; split <;> rfl

@[simp] theorem closeSlot_upcoming (s : State) : s.closeSlot.upcoming = s.nextPins.2 := by
  unfold State.closeSlot; split <;> rfl

@[simp] theorem closeSlot_offered (s : State) : s.closeSlot.offered = s.heldRequest := by
  unfold State.closeSlot; split <;> rfl

theorem closeSlot_reqReady (s : State) :
    s.closeSlot.reqReady = (!s.nextPins.1.rst && decide (s.closeSlot.pending.length < s.cfg.maxOutstanding)) := by
  unfold State.closeSlot; split <;> rfl

theorem closeSlot_rspValid (s : State) :
    s.closeSlot.rspValid = (!s.nextPins.1.rst && !s.closeSlot.pending.isEmpty) := by
  unfold State.closeSlot; split <;> rfl

/-- While RSP_VALID is 1 after the outputs are driven, RSP is the head of `pending`. -/
theorem driveOutputs_rsp_head (s : State) (r : Response) (rest : List Response) (hv : s.validNow = true)
    (hp : s.pending = r :: rest) : s.driveOutputs.rsp = r.word := by
  simp [State.rspNow, hv, hp]

theorem closeSlot_rsp_head (s : State) (r : Response) (rest : List Response) (hv : s.closeSlot.rspValid = true)
    (hp : s.closeSlot.pending = r :: rest) : s.closeSlot.rsp = r.word := by
  unfold State.closeSlot at *
  exact driveOutputs_rsp_head _ r rest hv hp

@[simp] theorem resetSlot_cfg (s : State) : s.resetSlot.cfg = s.cfg := rfl
@[simp] theorem resetSlot_pending (s : State) : s.resetSlot.pending = [] := rfl
@[simp] theorem resetSlot_delivered (s : State) : s.resetSlot.delivered = s.delivered := rfl
@[simp] theorem resetSlot_pins (s : State) : s.resetSlot.pins = s.nextPins.1 := rfl
@[simp] theorem resetSlot_reqReady (s : State) :
    s.resetSlot.reqReady = (!s.nextPins.1.rst && decide (0 < s.cfg.maxOutstanding)) := rfl
@[simp] theorem resetSlot_rspValid (s : State) : s.resetSlot.rspValid = false := by
  simp [State.resetSlot, State.validNow]
@[simp] theorem resetSlot_rsp (s : State) : s.resetSlot.rsp = 0 := by
  simp [State.resetSlot, State.rspNow, State.validNow]

/-- The response `encode(req)` of the request on the bus joins `pending`. -/
def State.acceptRequested (s : State) : State := s.accept (respond s.cfg s.pins.req)

/-- All a step can do: reset, refuse a broken handshake, accept the request on the bus and close the slot, or close the
slot alone. -/
theorem step_cases (s : State) :
    (s.pins.rst = true ∧ step s = .next s.resetSlot) ∨
    (s.pins.rst = false ∧ s.handshakeBroken = true ∧ step s = .refused .handshakeBroken) ∨
    (s.pins.rst = false ∧ s.handshakeBroken = false ∧ s.acceptEnabled = true ∧
      step s = .next s.acceptRequested.closeSlot) ∨
    (s.pins.rst = false ∧ s.handshakeBroken = false ∧ s.acceptEnabled = false ∧ step s = .next s.closeSlot) := by
  unfold step
  cases hr : s.pins.rst
  · cases hb : s.handshakeBroken
    · cases ha : s.acceptEnabled
      · exact .inr (.inr (.inr ⟨rfl, rfl, rfl, rfl⟩))
      · refine .inr (.inr (.inl ⟨rfl, rfl, rfl, ?_⟩))
        cases hd : s.requested <;>
          simp only [Bool.false_eq_true, if_false, if_true, exec_eq_accept, State.acceptRequested, State.acceptIllegal,
            respond, show decode s.pins.req = _ from hd]
    · exact .inr (.inl ⟨rfl, rfl, rfl⟩)
  · exact .inl ⟨rfl, rfl⟩

end Sys2Proof.Machine
end

