-- ==== Sys2Proof/Laws/PerInstr.lean ====
section
/-! SUPPORT. Statements about every instruction, one lemma per constructor. -/

namespace Sys2Proof.Laws.ControlWordMatches

/-- The request written for an operation has the control word 30_encoding.md rule R71 asks for, whatever its operands. -/
def Statement (i : Instr) : Prop := Machine.SelectsOpsel (encode i) (Machine.opselOf i)

theorem oneByte (v : Int) : Statement (.oneByte v) := requestOf_control ..
theorem twoByte (v : Int) : Statement (.twoByte v) := requestOf_control ..
theorem signedAngleByte (angle : Int) : Statement (.signedAngleByte angle) := requestOf_control ..
theorem color (red green blue : RatPort) : Statement (.color red green blue) := requestOf_control ..
theorem stop : Statement .stop := requestOf_control ..
theorem drive (speed : Int) : Statement (.drive speed) := requestOf_control ..
theorem spin (speed : Int) : Statement (.spin speed) := requestOf_control ..
theorem turn (degrees : Int) (speedDps : RatPort) : Statement (.turn degrees speedDps) := requestOf_control ..
theorem move (distanceMm : Int) (speedMmps : RatPort) (noTurn : Bool) : Statement (.move distanceMm speedMmps noTurn) :=
  requestOf_control ..
theorem packMove (distanceMm degrees : Int) (seconds : RatPort) (modeByte : Nat) :
    Statement (.packMove distanceMm degrees seconds modeByte) := requestOf_control ..

end Sys2Proof.Laws.ControlWordMatches
end

