-- ==== Sys2Proof/Tests/Slice0.lean ====
section
/-! SUPPORT. The model's own tests. Expected results are those of 95_test_vectors.md (derived there from the rules, with
exact arithmetic, by another hand than the model's), or are written out from the encoding tables. -/

namespace Sys2Proof.Tests

-- One thread for the file: many proofs at once would each reserve a stack.
set_option Elab.async false

open Sys2Proof.Machine

/-! ### Well-formedness refuses what does not fit (93_implementation_defined.md I16) -/

theorem test_wf_refuses_int_above_s32 : Instr.wellFormed (.oneByte 2147483648) = false := by decide
theorem test_wf_refuses_int_below_s32 : Instr.wellFormed (.twoByte (-2147483649)) = false := by decide
theorem test_wf_refuses_angle : Instr.wellFormed (.signedAngleByte 2147483648) = false := by decide
theorem test_wf_refuses_red_numerator : Instr.wellFormed (.color ⟨2147483648, 1⟩ ⟨0, 1⟩ ⟨0, 1⟩) = false := by decide
theorem test_wf_refuses_green_denominator : Instr.wellFormed (.color ⟨0, 1⟩ ⟨0, 4294967296⟩ ⟨0, 1⟩) = false := by decide
theorem test_wf_refuses_blue_denominator : Instr.wellFormed (.color ⟨0, 1⟩ ⟨0, 1⟩ ⟨0, 4294967296⟩) = false := by decide
theorem test_wf_refuses_drive_speed : Instr.wellFormed (.drive (-2147483649)) = false := by decide
theorem test_wf_refuses_spin_speed : Instr.wellFormed (.spin 2147483648) = false := by decide
theorem test_wf_refuses_turn_degrees : Instr.wellFormed (.turn 2147483648 ⟨1, 1⟩) = false := by decide
theorem test_wf_refuses_turn_speed : Instr.wellFormed (.turn 1 ⟨1, 4294967296⟩) = false := by decide
theorem test_wf_refuses_move_distance : Instr.wellFormed (.move 2147483648 ⟨1, 1⟩ true) = false := by decide
theorem test_wf_refuses_move_speed : Instr.wellFormed (.move 1 ⟨-2147483649, 1⟩ true) = false := by decide
theorem test_wf_refuses_pack_distance : Instr.wellFormed (.packMove 2147483648 0 ⟨1, 1⟩ 0) = false := by decide
theorem test_wf_refuses_pack_degrees : Instr.wellFormed (.packMove 0 2147483648 ⟨1, 1⟩ 0) = false := by decide
theorem test_wf_refuses_pack_seconds : Instr.wellFormed (.packMove 0 0 ⟨1, 4294967296⟩ 0) = false := by decide
theorem test_wf_refuses_mode_above_byte : Instr.wellFormed (.packMove 0 0 ⟨1, 1⟩ 256) = false := by decide
theorem test_wf_accepts_the_ends :
    Instr.wellFormed (.packMove (-2147483648) 2147483647 ⟨-2147483648, 4294967295⟩ 255) = true := by decide

/-! ### Decoding words written out from the encoding (30_encoding.md rules R61, R65 and R71) -/

theorem test_decode_oneByte :
    decode 0x0000000000000000000000000000000000000000000000000000000000000100_00000001#288 = .ok (.oneByte 256) := by decide +kernel
theorem test_decode_twoByte :
    decode 0x0000000000000000000000000000000000000000000000000000000000001FFF_00000002#288 = .ok (.twoByte 8191) := by decide +kernel
theorem test_decode_signedAngleByte :
    decode 0x00000000000000000000000000000000000000000000000000000000FFFFFFCB_00000003#288 =
      .ok (.signedAngleByte (-53)) := by decide +kernel
theorem test_decode_color :
    decode 0x00000001_00000000_000000FF_00000080_00000002_FFFFFFFF_0000000000000000_00000004#288 =
      .ok (.color ⟨-1, 2⟩ ⟨128, 255⟩ ⟨0, 1⟩) := by decide +kernel
theorem test_decode_stop_ignores_operand_fields :
    decode 0x00000000FFFFFFFF00000000FFFFFFFF00000000FFFFFFFFFFFFFFFFFFFFFFFF00FF0105#288 = .ok .stop := by decide +kernel
theorem test_decode_drive_ignores_other_fields :
    decode 0x000000000000000000000000000000000000000000000007FFFFFFFB000000C8007F0106#288 = .ok (.drive 200) := by decide +kernel
theorem test_decode_spin :
    decode 0x00000000000000000000000000000000000000000000000000000000FFFFFF38_00000007#288 = .ok (.spin (-200)) := by decide +kernel
theorem test_decode_turn :
    decode 0x00000000000000000000000000000000_00000001_00000064_00000000_FFFFFFA6_00000008#288 =
      .ok (.turn (-90) ⟨100, 1⟩) := by decide +kernel
theorem test_decode_move :
    decode 0x00000000000000000000000000000000_0000000A_00000005_00000000_00000032_00000109#288 =
      .ok (.move 50 ⟨5, 10⟩ true) := by decide +kernel
theorem test_decode_packMove :
    decode 0x00000000000000000000000000000000_00000001_00000003_0000002D_00000064_0080000A#288 =
      .ok (.packMove 100 45 ⟨3, 1⟩ 0x80) := by decide +kernel
theorem test_decode_refuses_reserved_opsel : decode 0x0000000B#288 = .error .reservedOpsel := by decide +kernel
theorem test_decode_refuses_opsel_zero : decode 0x00000000#288 = .error .reservedOpsel := by decide +kernel
theorem test_decode_refuses_rsv0 : decode 0x00000015#288 = .error .reservedBits := by decide +kernel
theorem test_decode_refuses_rsv1 : decode 0x00000205#288 = .error .reservedBits := by decide +kernel
theorem test_decode_refuses_rsv2 : decode 0x01000005#288 = .error .reservedBits := by decide +kernel
theorem test_decodeTableWord_cuts_to_nbits : decodeTableWord 32 0x1234500000006 = some (.drive 0) := by decide +kernel

/-! ### One step of each operation from reset -/

/-- The RSP word the block offers after one step that accepts the request, under the parameters given. -/
def offeredAfter (cfg : Params) (w : Request) : Option RspWord :=
  match step ({ State.reset with cfg := cfg }.presentRequest w) with
  | .next t => if t.rspValid then some t.rsp else none
  | _ => none

/-- The parameters with the packer's checks off (43_motion_pack.md rule R158). -/
def literal : Params := { Params.specValue with strictFields := false }

/-- The parameters with ties away from zero (00_scope.md rule R10). -/
def away : Params := { Params.specValue with rounding := .halfAway }

theorem test_oneByte_200 : offeredAfter .specValue (encode (.oneByte 200)) = some 0x00000000000000C80010#80 := by
  decide +kernel
theorem test_oneByte_256_faults : offeredAfter .specValue (encode (.oneByte 256)) = some 0x00000000000000000001#80 := by
  decide +kernel
theorem test_twoByte_big_endian : offeredAfter .specValue (encode (.twoByte 0x1234)) = some 0x00000000000034120020#80 := by
  decide +kernel
theorem test_twoByte_negative_faults : offeredAfter .specValue (encode (.twoByte (-1))) = some 0x00000000000000000001#80 := by
  decide +kernel
theorem test_signedAngle_lowest :
    offeredAfter .specValue (encode (.signedAngleByte (-127))) = some 0x00000000000000810010#80 := by decide +kernel
theorem test_signedAngle_minus_128_faults :
    offeredAfter .specValue (encode (.signedAngleByte (-128))) = some 0x00000000000000000001#80 := by decide +kernel
theorem test_color_ties_to_even_and_clamps :
    offeredAfter .specValue (encode (.color ⟨509, 510⟩ ⟨2, 1⟩ ⟨-1, 1⟩)) = some 0x000000000000FFFE0030#80 := by
  decide +kernel
/-- 41_color.md rule R121: under HALF_AWAY the channels 1/510, 5/510 and 509/510 give 0x01, 0x03 and 0xFF. -/
theorem test_color_ties_away :
    offeredAfter away (encode (.color ⟨1, 510⟩ ⟨5, 510⟩ ⟨509, 510⟩)) = some 0x0000000000FF03010030#80 := by decide +kernel
theorem test_stop : offeredAfter .specValue (encode .stop) = some 0x00000000000000000130#80 := by decide +kernel
theorem test_drive_folds : offeredAfter .specValue (encode (.drive (-200))) = some 0x00000000000700380130#80 := by
  decide +kernel
theorem test_drive_clamps : offeredAfter .specValue (encode (.drive 3000)) = some 0x00000000000800000130#80 := by
  decide +kernel
theorem test_spin_shifts_by_five : offeredAfter .specValue (encode (.spin (-200))) = some 0x00000000003838000130#80 := by
  decide +kernel
theorem test_spin_clamps : offeredAfter .specValue (encode (.spin 3000)) = some 0x00000000004000000130#80 := by
  decide +kernel
theorem test_turn_negative : offeredAfter .specValue (encode (.turn (-360) ⟨-360, 1⟩)) = some 0x80C040E8038C00000280#80 := by
  decide +kernel
theorem test_turn_zero_is_empty : offeredAfter .specValue (encode (.turn 0 ⟨0, 1⟩)) = some 0x00000000000000000000#80 := by
  decide +kernel
theorem test_move_backwards_no_turn :
    offeredAfter .specValue (encode (.move (-50) ⟨1000, 1⟩ true)) = some 0x81003F32000000CE0280#80 := by decide +kernel
theorem test_move_zero_speed_first :
    offeredAfter .specValue (encode (.move 9000 ⟨0, 1⟩ false)) = some 0x00000000000000000004#80 := by decide +kernel
theorem test_packMove_literal_angle :
    offeredAfter literal (encode (.packMove 0 (-400) ⟨1, 1⟩ 0x80)) = some 0x80C040E8034600000280#80 := by decide +kernel
theorem test_packMove_conflict_first :
    offeredAfter .specValue (encode (.packMove 100 400 ⟨1, 1⟩ 0x80)) = some 0x00000000000000000002#80 := by decide +kernel

/-! ### The interface (95_test_vectors.md P5, 70_reset_and_hazards.md rules R230 to R236) -/

/-- One step from a state, where it answers a next one. -/
def stepped (s : State) : Option State :=
  match step s with
  | .next t => some t
  | _ => none

/-- `DRIVE 200` on the bus in the first slot after reset, then one slot with `rst = 1`. -/
def driveThenReset : State :=
  { State.reset.presentRequest 0xC800000006#288 with
    upcoming := [{ rst := true, reqValid := false, req := 0, rspReady := false }] }

theorem test_illegal_request_answers :
    offeredAfter .specValue 0x0000000F#288 = some 0x00000000000000000006#80 := by decide +kernel
theorem test_accept_fills_the_block :
    (stepped { driveThenReset with upcoming := [] }).map (fun t => (t.rspValid, t.rsp, t.reqReady)) =
      some (true, 0x00000000000000C80130#80, false) := by decide +kernel
theorem test_reset_loses_the_response :
    ((stepped driveThenReset).bind stepped).map (fun t => (t.pending.length, t.rspValid, t.rsp, t.reqReady)) =
      some (0, false, 0, true) := by decide +kernel
theorem test_deliver_empties_the_block :
    ((stepped { driveThenReset with
        upcoming := [{ rst := false, reqValid := false, req := 0, rspReady := true }] }).bind stepped).map
        (fun t => (t.pending.length, t.rspValid, t.delivered, t.reqReady)) =
      some (0, false, [0x00000000000000C80130#80], true) := by decide +kernel
theorem test_dropped_request_is_refused :
    step { State.reset with offered := some 5#288 } = .refused .handshakeBroken := by rfl
theorem test_withFetchWord_makes_room :
    (stepped (State.withFetchWord
        { State.reset with pending := [stopResponse], rspValid := true, rsp := stopResponse.word, reqReady := false } 32 5)).map
      (fun t => t.pending) = some [stopResponse] := by decide +kernel

/-! ### The assembler (30_encoding.md rules R78 and R79; lines of 95_test_vectors.md L3) -/

theorem test_assemble_packMove :
    assembleText "PACK_MOVE 100, 45, 1, 0x80".toList =
      some 0x0000000000000000000000000000000000000001000000010000002D000000640080000A#288 := by decide +kernel
theorem test_assemble_decimal :
    assembleText "MOVE 50, 0.5, 0".toList =
      some 0x000000000000000000000000000000000000000A00000005000000000000003200000009#288 := by decide +kernel
theorem test_assemble_refuses_what_does_not_fit : assembleText "ONE_BYTE 4294967296".toList = none := by decide +kernel
theorem test_decimal_literals :
    parseRat "0.05".toList = some ⟨5, 100⟩ ∧ parseRat "-1.5".toList = some ⟨-15, 10⟩ := by decide +kernel

/-! ### The hypotheses of the statements can be met: one witness for each, at the ends of the ranges -/

/-- A block of room for two with the response of STOP waiting and on offer, and the request `w` on the bus. -/
def busy (w : Request) : State :=
  { State.reset with
    cfg := { Params.specValue with maxOutstanding := 2 }
    pending := [stopResponse]
    rspValid := true
    rsp := stopResponse.word
    pins := { rst := false, reqValid := true, req := w, rspReady := false } }

theorem stopResponse_sound : stopResponse.Sound :=
  ⟨by decide, by decide, by decide, by decide, by decide, by decide⟩

theorem busy_inv (w : Request) : (busy w).Inv where
  legal := Nat.le_succ 1
  fits := Nat.le_succ 1
  sound := fun _ hr => by rw [List.mem_singleton.mp hr]; exact stopResponse_sound
  ready := ⟨fun _ => ⟨rfl, Nat.lt_succ_self 1⟩, fun _ => rfl⟩
  valid := ⟨fun _ => ⟨rfl, List.cons_ne_nil _ _⟩, fun _ => rfl⟩
  head := fun r rest _ hp => by
    have hr : r = stopResponse := (List.cons.inj hp).1.symm
    rw [hr]; rfl

theorem witness_selects :
    SelectsOpsel 0x1#288 0x1 ∧ SelectsOpsel 0x2#288 0x2 ∧ SelectsOpsel 0x3#288 0x3 ∧ SelectsOpsel 0x4#288 0x4 ∧
    SelectsOpsel 0xFF0105#288 0x5 ∧ SelectsOpsel 0x6#288 0x6 ∧ SelectsOpsel 0x7#288 0x7 ∧ SelectsOpsel 0x8#288 0x8 ∧
    SelectsOpsel 0x109#288 0x9 ∧ SelectsOpsel 0xFF000A#288 0xA := by
  refine ⟨?_, ?_, ?_, ?_, ?_, ?_, ?_, ?_, ?_, ?_⟩ <;> (unfold SelectsOpsel; decide +kernel)

theorem witness_oneByte : ((0 : Int) ≤ 255 ∧ (255 : Int) ≤ 255) ∧ ((256 : Int) < 0 ∨ (255 : Int) < 256) := by decide
theorem witness_twoByte : ((0 : Int) ≤ 65535 ∧ (65535 : Int) ≤ 65535) ∧ ((-1 : Int) < 0 ∨ (65535 : Int) < -1) := by decide
theorem witness_signedAngle :
    ((-127 : Int) ≤ -127 ∧ (-127 : Int) ≤ 127) ∧ ((-128 : Int) < -127 ∨ (127 : Int) < -128) := by decide
theorem witness_scalar_read_back : ((0 : Int) ≤ 65535 ∧ (65535 : Int) ≤ 65535) ∧ ((-127 : Int) ≤ 127 ∧ (127 : Int) ≤ 127) := by
  decide
theorem witness_color :
    ((⟨1, 1⟩ : RatPort).den ≠ 0 ∧ (⟨1, 2⟩ : RatPort).den ≠ 0 ∧ (⟨-1, 4294967295⟩ : RatPort).den ≠ 0) ∧
    ((⟨1, 1⟩ : RatPort).den = 0 ∨ (⟨1, 0⟩ : RatPort).den = 0 ∨ (⟨1, 1⟩ : RatPort).den = 0) := by decide
theorem witness_speed_collision :
    (-2048 : Int) ≤ 2047 ∧ (2047 : Int) ≤ 2048 ∧ (-2048 : Int) ≤ -1 ∧ (-1 : Int) ≤ 2048 ∧ (2047 : Int) = -1 + 2048 := by
  decide
theorem witness_masking : 16 ≤ 16 := le_refl 16
theorem witness_centirad : (-2147483648 : Int) ≠ 0 ∧ (-2147483648 : Int) ≤ -2147483648 ∧ (-2147483648 : Int) ≤ 2147483647 := by
  decide

/-- Half-way durations: 65535.5 ms goes to the even 65536, 65534.5 ms to the even 65534, and 1000 ms is exact. -/
theorem witness_rounds :
    RoundsTo .halfEven (((131071 : Int) : ℚ) / (2000 : Nat) * 1000) 65536 ∧
    RoundsTo .halfEven (((131069 : Int) : ℚ) / (2000 : Nat) * 1000) 65534 ∧
    RoundsTo .halfEven (((1 : Int) : ℚ) / (1 : Nat) * 1000) 1000 ∧
    RoundsTo .halfEven (|((360 : Int) : ℚ) / (((360 : Int) : ℚ) / (1 : Nat))| * 1000) 1000 ∧
    RoundsTo .halfEven (|((360 : Int) : ℚ) / (((1 : Int) : ℚ) / (1 : Nat))| * 1000) 360000 ∧
    RoundsTo .halfEven (|((8191 : Int) : ℚ) / abs (((1000 : Int) : ℚ) / (1 : Nat))| * 1000) 8191 ∧
    RoundsTo .halfEven (|((8192 : Int) : ℚ) / abs (((1000 : Int) : ℚ) / (1 : Nat))| * 1000) 8192 := by
  refine ⟨.inr ⟨?_, ?_⟩, .inr ⟨?_, ?_⟩, .inl ?_, .inl ?_, .inl ?_, .inl ?_, .inl ?_⟩ <;> norm_num [abs_of_neg]

/-- The angle at its bound, 360 degrees. -/
theorem witness_nearest : NearestCentiradians 360 628 ∧ NearestCentiradians 0 0 := by
  have h1 := Real.pi_gt_d4
  have h2 := Real.pi_lt_d4
  constructor
  · unfold NearestCentiradians
    rw [abs_lt]
    push_cast
    constructor <;> linarith
  · unfold NearestCentiradians
    norm_num

theorem witness_packMove_faults :
    (⟨1, 0⟩ : RatPort).den = 0 ∧
    ((⟨1, 1⟩ : RatPort).den ≠ 0 ∧ (1 : Int) ≠ 0 ∧ (-1 : Int) ≠ 0) ∧
    (((0 : Int) = 0 ∨ (361 : Int) = 0) ∧ State.reset.cfg.strictFields = true ∧ 360 < |(361 : Int)|) ∧
    (((8192 : Int) = 0 ∨ (0 : Int) = 0) ∧ |(0 : Int)| ≤ 360 ∧
      ((8192 : Int) < -8192 ∨ (8191 : Int) < 8192 ∨ ((1 : Int) : ℚ) / (1 : Nat) < 0 ∨ (65535 : Int) < 1000)) ∧
    ((0 : Int) < -8192 ∨ (8191 : Int) < 0 ∨ ((-1 : Int) : ℚ) / (1000 : Nat) < 0 ∨ (65535 : Int) < -1) ∧
    ((0 : Int) < -8192 ∨ (8191 : Int) < 0 ∨ ((131071 : Int) : ℚ) / (2000 : Nat) < 0 ∨ (65535 : Int) < 65536) := by
  refine ⟨rfl, by decide, by decide, ⟨by decide, by decide, .inr (.inl (by decide))⟩, .inr (.inr (.inl (by norm_num))),
    .inr (.inr (.inr (by decide)))⟩

theorem witness_packMove_completes :
    (⟨1, 1⟩ : RatPort).den ≠ 0 ∧ ((0 : Int) = 0 ∨ (360 : Int) = 0) ∧
    Instr.wellFormed (.packMove 0 360 ⟨1, 1⟩ 255) = true ∧
    RoundsTo State.reset.cfg.rounding (((1 : Int) : ℚ) / (1 : Nat) * 1000) 1000 ∧ NearestCentiradians 360 628 ∧
    (State.reset.cfg.strictFields = true →
      |(360 : Int)| ≤ 360 ∧ (-8192 : Int) ≤ 0 ∧ (0 : Int) ≤ 8191 ∧ 0 ≤ ((1 : Int) : ℚ) / (1 : Nat) ∧ (1000 : Int) ≤ 65535) :=
  ⟨by decide, by decide, by decide, witness_rounds.2.2.1, witness_nearest.1,
    fun _ => ⟨by decide, by decide, by decide, by norm_num, by decide⟩⟩

theorem witness_literal :
    { State.reset with cfg := literal }.cfg.strictFields = false ∧ (⟨1, 1⟩ : RatPort).den ≠ 0 ∧
    ((8192 : Int) = 0 ∨ (0 : Int) = 0) ∧ ((-8192 : Int) = 0 ∨ (0 : Int) = 0) ∧
    RoundsTo literal.rounding (((1 : Int) : ℚ) / (1 : Nat) * 1000) 1000 ∧
    (8192 : Int) % 16384 = (-8192) % 16384 ∧ (1000 : Int) % 65536 = 1000 % 65536 :=
  ⟨rfl, by decide, by decide, by decide, witness_rounds.2.2.1, by decide, rfl⟩

theorem witness_strict_payload :
    Params.specValue.strictFields = true ∧ Instr.wellFormed (.packMove 8191 0 ⟨1, 1⟩ 255) = true ∧
    RoundsTo Params.specValue.rounding (((1 : Int) : ℚ) / (1 : Nat) * 1000) 1000 ∧
    (packMoveResponse .specValue 8191 0 ⟨1, 1⟩ 255).status = 0 ∧
    packMoveResponse .specValue 8191 0 ⟨1, 1⟩ 255 = packMoveResponse .specValue 8191 0 ⟨1, 1⟩ 255 :=
  ⟨rfl, by decide, witness_rounds.2.2.1, by decide +kernel, rfl⟩

theorem witness_turn :
    ((⟨1, 0⟩ : RatPort).den = 0) ∧ ((⟨1, 1⟩ : RatPort).den ≠ 0 ∧ 360 < |(-361 : Int)|) ∧
    ((360 : Int) ≠ 0 ∧ |(360 : Int)| ≤ 360 ∧ (⟨0, 1⟩ : RatPort).num = 0) ∧
    ((⟨1, 1⟩ : RatPort).num ≠ 0 ∧ State.reset.cfg.strictFields = true ∧ (65535 : Int) < 360000 ∧
      RoundsTo State.reset.cfg.rounding (|((360 : Int) : ℚ) / (((1 : Int) : ℚ) / (1 : Nat))| * 1000) 360000) ∧
    ((⟨360, 1⟩ : RatPort).num ≠ 0 ∧ NearestCentiradians 360 628 ∧
      RoundsTo State.reset.cfg.rounding (|((360 : Int) : ℚ) / (((360 : Int) : ℚ) / (1 : Nat))| * 1000) 1000 ∧
      (State.reset.cfg.strictFields = true → (1000 : Int) ≤ 65535)) :=
  ⟨rfl, by decide, by decide, ⟨by decide, rfl, by decide, witness_rounds.2.2.2.2.1⟩,
    ⟨by decide, witness_nearest.1, witness_rounds.2.2.2.1, fun _ => by decide⟩⟩

theorem witness_move :
    ((⟨1, 0⟩ : RatPort).den = 0) ∧ ((⟨0, 1⟩ : RatPort).den ≠ 0 ∧ (⟨0, 1⟩ : RatPort).num = 0) ∧
    ((⟨1000, 1⟩ : RatPort).num ≠ 0 ∧ State.reset.cfg.strictFields = true ∧
      RoundsTo State.reset.cfg.rounding (|((8192 : Int) : ℚ) / abs (((1000 : Int) : ℚ) / (1 : Nat))| * 1000) 8192 ∧
      ((8192 : Int) < -8192 ∨ (8191 : Int) < 8192 ∨ (65535 : Int) < 8192)) ∧
    (RoundsTo State.reset.cfg.rounding (|((8191 : Int) : ℚ) / abs (((1000 : Int) : ℚ) / (1 : Nat))| * 1000) 8191 ∧
      (State.reset.cfg.strictFields = true → (-8192 : Int) ≤ 8191 ∧ (8191 : Int) ≤ 8191 ∧ (8191 : Int) ≤ 65535)) :=
  ⟨rfl, by decide, ⟨by decide, rfl, witness_rounds.2.2.2.2.2.2, by decide⟩,
    ⟨witness_rounds.2.2.2.2.2.1, fun _ => by decide⟩⟩

theorem witness_mode_byte :
    Instr.wellFormed (.move (-1) ⟨1000, 1⟩ true) = true ∧
    (responseOf .specValue (.move (-1) ⟨1000, 1⟩ true)).cmd = 2 := by decide +kernel
theorem witness_port_value :
    (⟨1, 2⟩ : RatPort).den ≠ 0 ∧ (⟨5, 10⟩ : RatPort).den ≠ 0 ∧
    (⟨1, 2⟩ : RatPort).num * (⟨5, 10⟩ : RatPort).den = (⟨5, 10⟩ : RatPort).num * (⟨1, 2⟩ : RatPort).den := by decide
theorem witness_lengths :
    (respond .specValue 0#288).status ≠ 0 ∧
    (decode 0x100000000_0000000000000000_00000008#288 = .ok (.turn 0 ⟨0, 1⟩) ∨
      decode (encode (.turn 0 ⟨0, 1⟩)) = .ok (.turn 0 ⟨0, 1⟩)) ∧
    (respond .specValue (encode (.turn 0 ⟨0, 1⟩))).status = 0 := by decide +kernel
theorem witness_fault_codes :
    (responseOf .specValue (.packMove 1 1 ⟨1, 1⟩ 0)).status.toNat = 2 ∧
    (responseOf .specValue (.turn 361 ⟨1, 1⟩)).status.toNat = 3 ∧
    (responseOf .specValue (.move 0 ⟨0, 1⟩ false)).status.toNat = 4 ∧
    (responseOf .specValue (.turn 0 ⟨1, 0⟩)).status.toNat = 5 ∧
    (respond .specValue 0#288).status.toNat = 6 := by decide +kernel
theorem witness_encoded : Instr.wellFormed (.color ⟨-2147483648, 4294967295⟩ ⟨2147483647, 0⟩ ⟨0, 1⟩) = true := by decide
theorem witness_decoded : decode 0xFF010A#288 = .ok (.packMove 0 0 ⟨0, 0⟩ 0xFF) := by decide +kernel
theorem witness_unread_fields :
    decode 0x5#288 = .ok .stop ∧ 0x5#288 &&& readBits .stop = 0xFFFFFFFF00FF0105#288 &&& readBits .stop := by
  decide +kernel
theorem witness_assembled : assemble (.op .stop) = some 0x5#288 := by decide +kernel

theorem witness_accepting_step :
    (busy 0x5#288).pins.rst = false ∧ (busy 0x5#288).handshakeBroken = false ∧ (busy 0x5#288).pins.reqValid = true ∧
    (busy 0x5#288).reqReady = true ∧ decode (busy 0x5#288).pins.req = .ok .stop ∧
    exec .stop (busy 0x5#288) = .next ((busy 0x5#288).accept stopResponse) :=
  ⟨rfl, rfl, rfl, rfl, by decide +kernel, rfl⟩
theorem witness_step_in_a_sound_state :
    (busy 0x5#288).Inv ∧ (busy 0x5#288).pins.rst = false ∧ (busy 0x5#288).handshakeBroken = false ∧
    step (busy 0x5#288) = .next (busy 0x5#288).acceptRequested.closeSlot := ⟨busy_inv _, rfl, rfl, rfl⟩
theorem witness_reset_slot :
    { busy 0x5#288 with pins := { (busy 0x5#288).pins with rst := true } }.pins.rst = true ∧
    1 ≤ { busy 0x5#288 with pins := { (busy 0x5#288).pins with rst := true } }.cfg.maxOutstanding := ⟨rfl, Nat.le_succ 1⟩
theorem witness_first_request :
    { State.reset with pins := { rst := true, reqValid := true, req := 5, rspReady := false } }.pins.rst = true ∧
    (stepped { State.reset with pins := { rst := true, reqValid := true, req := 5, rspReady := false } }).map
      (fun t => (t.pins.rst, t.pins.reqValid)) = some (false, true) := by decide +kernel
theorem witness_held_response :
    (busy 0x5#288).Inv ∧ (busy 0x5#288).rspValid = true ∧ (busy 0x5#288).pins.rspReady = false ∧
    step (busy 0x5#288) = .next (busy 0x5#288).acceptRequested.closeSlot ∧
    (busy 0x5#288).acceptRequested.closeSlot.pins.rst = false := ⟨busy_inv _, rfl, rfl, rfl, rfl⟩
theorem witness_broken_and_kept_handshake :
    (∃ q, { State.reset with offered := some 5#288 }.offered = some q ∧ State.reset.pins.rst = false ∧
      ¬(State.reset.pins.reqValid = true ∧ State.reset.pins.req = q)) ∧
    ¬(∃ q, State.reset.offered = some q ∧ State.reset.pins.rst = false ∧
      ¬(State.reset.pins.reqValid = true ∧ State.reset.pins.req = q)) := by
  refine ⟨⟨5#288, rfl, rfl, fun h => absurd h.1 Bool.false_ne_true⟩, ?_⟩
  rintro ⟨q, hq, _⟩
  exact absurd hq (by simp [State.reset])
theorem witness_run_without_reset :
    (busy 0x5#288).Inv ∧ resetFree 1 (busy 0x5#288) ∧
    Sys2Proof.core.run 1 (busy 0x5#288) = .next (busy 0x5#288).acceptRequested.closeSlot :=
  ⟨busy_inv _, ⟨rfl, fun _ _ => trivial⟩, rfl⟩
theorem witness_same_request :
    (busy 0x5#288).Inv ∧ { State.reset with pins := (busy 0x5#288).pins }.Inv ∧
    (busy 0x5#288).cfg.strictFields = State.reset.cfg.strictFields ∧ (busy 0x5#288).cfg.rounding = State.reset.cfg.rounding ∧
    (busy 0x5#288).acceptEnabled = true ∧ { State.reset with pins := (busy 0x5#288).pins }.acceptEnabled = true ∧
    step (busy 0x5#288) = .next (busy 0x5#288).acceptRequested.closeSlot ∧
    step { State.reset with pins := (busy 0x5#288).pins } =
      .next { State.reset with pins := (busy 0x5#288).pins }.acceptRequested.closeSlot :=
  ⟨busy_inv _,
    { legal := Nat.le_refl 1
      fits := Nat.zero_le 1
      sound := fun _ hr => absurd hr List.not_mem_nil
      ready := ⟨fun _ => ⟨rfl, Nat.zero_lt_one⟩, fun _ => rfl⟩
      valid := ⟨fun h => absurd h Bool.false_ne_true, fun h => absurd rfl h.2⟩
      head := fun _ _ h _ => absurd h Bool.false_ne_true },
    rfl, rfl, rfl, rfl, rfl, rfl⟩

end Sys2Proof.Tests
end

section
/-! Masking is the bitwise AND of integers (00_scope.md rule R9). -/

namespace Sys2Proof.Machine

/-- The AND with a mask of `k` bits reads only the low `k` bits of the infinite two's-complement form: those above are
cut off by the mask, and the low `k` bits of a negative number are the complement of those of `-x - 1`. -/
theorem land_mask_eq_emod_and (x : Int) {m k : Nat} (hm : m < 2 ^ k) :
    Int.land x m = ((x % 2 ^ k).toNat &&& m : Nat) := by
  have mask_zero_above (i : Nat) (hi : ¬ i < k) : m.testBit i = false :=
    Nat.testBit_lt_two_pow (hm.trans_le (Nat.pow_le_pow_right two_pos (not_lt.mp hi)))
  cases x with
  | ofNat n =>
    change ((n &&& m : Nat) : Int) = (n % 2 ^ k &&& m : Nat)
    congr 1
    refine Nat.eq_of_testBit_eq fun i => ?_
    by_cases hi : i < k <;> simp [hi, mask_zero_above i]
  | negSucc n =>
    have hn : n % 2 ^ k < 2 ^ k := Nat.mod_lt n (Nat.two_pow_pos k)
    have low : Int.negSucc n % 2 ^ k = (2 ^ k - (n % 2 ^ k + 1) : Nat) := by
      rw [Int.negSucc_emod n (by positivity), Nat.cast_sub hn]
      push_cast
      ring
    rw [low, Int.toNat_natCast]
    change ((Nat.ldiff m n : Nat) : Int) = _
    congr 1
    refine Nat.eq_of_testBit_eq fun i => ?_
    rw [Nat.testBit_ldiff, Nat.testBit_and, Nat.testBit_two_pow_sub_succ hn]
    by_cases hi : i < k <;> simp [hi, mask_zero_above i, Bool.and_comm]

/-- Settles O13: both forms of the masking are `Int.land`, since a mask of 16 bits fits in `k` of at least 16. -/
theorem maskingIsTheBitwiseAndOfIntegers : Obligations.MaskingIsTheBitwiseAndOfIntegers := by
  intro x m
  have land16 : (andMask x m : Int) = Int.land x m.toNat := by
    rw [andMask_eq, land_mask_eq_emod_and x m.isLt]
    rfl
  refine ⟨land16, fun k hk => ?_⟩
  have fits : m.toNat < 2 ^ k := m.isLt.trans_le (Nat.pow_le_pow_right two_pos hk)
  exact Int.ofNat_inj.mp (land16.trans (land_mask_eq_emod_and x fits))

end Sys2Proof.Machine
end

section
/-! Rounding is the nearest integer with ties as `ROUNDING` says (00_scope.md rule R10). -/

namespace Sys2Proof.Machine

/-- Every rounding is within half a unit. -/
theorem RoundsTo.abs_sub_le_half {mode : Rounding} {x : ℚ} {n : ℤ} (h : RoundsTo mode x n) : |x - n| ≤ 1 / 2 := by
  rcases h with near | ⟨tie, _⟩
  · exact near.le
  · exact tie.le

/-- An integer less than half a unit away is the only rounding: another one would be less than a unit from it. -/
theorem roundsTo_iff_eq_of_near (mode : Rounding) {x : ℚ} {m : ℤ} (near : |x - m| < 1 / 2) (n : ℤ) :
    RoundsTo mode x n ↔ n = m := by
  refine ⟨fun h => ?_, fun h => .inl (h ▸ near)⟩
  have close : |(n : ℚ) - m| < 1 := by
    calc |(n : ℚ) - m| ≤ |(n : ℚ) - x| + |x - m| := abs_sub_le _ _ _
      _ < 1 := by rw [abs_sub_comm]; linarith [h.abs_sub_le_half]
  exact sub_eq_zero.mp (Int.abs_lt_one_iff.mp (by exact_mod_cast close))

theorem roundsTo_halfEven_iff_of_half {x : ℚ} {n : ℤ} (half : |x - n| = 1 / 2) :
    RoundsTo .halfEven x n ↔ n % 2 = 0 := by
  simp only [RoundsTo, half, lt_irrefl, false_or, true_and]

theorem roundsTo_halfAway_iff_of_half {x : ℚ} {n : ℤ} (half : |x - n| = 1 / 2) :
    RoundsTo .halfAway x n ↔ |x| < |(n : ℚ)| := by
  simp only [RoundsTo, half, lt_irrefl, false_or, true_and]

/-- Of the two neighbours of `f + 1/2`, the lower one is farther from zero exactly below zero. -/
theorem abs_half_above_lt_abs_lower (f : ℤ) : |(f : ℚ) + 1 / 2| < |(f : ℚ)| ↔ f < 0 := by
  have squares : |(f : ℚ) + 1 / 2| < |(f : ℚ)| ↔ (f : ℚ) < -1 / 4 := by
    rw [← sq_lt_sq]
    constructor <;> intro h <;> linarith
  rw [squares]
  refine ⟨fun h => by exact_mod_cast h.trans (by norm_num : (-1 / 4 : ℚ) < 0), fun h => ?_⟩
  have : (f : ℚ) ≤ -1 := by exact_mod_cast Int.le_sub_one_of_lt h
  linarith

/-- Of the two neighbours of `f + 1/2`, the upper one is farther from zero exactly from zero on. -/
theorem abs_half_above_lt_abs_upper (f : ℤ) : |(f : ℚ) + 1 / 2| < |((f + 1 : ℤ) : ℚ)| ↔ 0 ≤ f := by
  have mirrored := abs_half_above_lt_abs_lower (-(f + 1))
  push_cast at mirrored ⊢
  rw [abs_neg, ← abs_neg, show -(-((f : ℚ) + 1) + 1 / 2) = f + 1 / 2 by ring] at mirrored
  rw [mirrored]
  omega

/-- Half-way above `f`, the lower neighbour is a rounding exactly when the tie rule picks it. -/
theorem roundsTo_tie_lower (mode : Rounding) (f : ℤ) : RoundsTo mode (f + 1 / 2) f ↔ f = roundTie mode f := by
  have half : |(f : ℚ) + 1 / 2 - f| = 1 / 2 := by norm_num
  cases mode with
  | halfEven =>
    rw [roundsTo_halfEven_iff_of_half half, roundTie]
    split <;> omega
  | halfAway =>
    rw [roundsTo_halfAway_iff_of_half half, abs_half_above_lt_abs_lower, roundTie]
    split <;> omega

/-- Half-way above `f`, the upper neighbour is a rounding exactly when the tie rule picks it. -/
theorem roundsTo_tie_upper (mode : Rounding) (f : ℤ) :
    RoundsTo mode (f + 1 / 2) (f + 1) ↔ f + 1 = roundTie mode f := by
  have half : |(f : ℚ) + 1 / 2 - (f + 1 : ℤ)| = 1 / 2 := by push_cast; ring_nf; norm_num
  cases mode with
  | halfEven =>
    rw [roundsTo_halfEven_iff_of_half half, roundTie]
    split <;> omega
  | halfAway =>
    rw [roundsTo_halfAway_iff_of_half half, abs_half_above_lt_abs_upper, roundTie]
    split <;> omega

/-- Only the two neighbours of `f + 1/2` can be roundings of it. -/
theorem eq_lower_or_upper_of_roundsTo_tie {mode : Rounding} {f n : ℤ} (h : RoundsTo mode (f + 1 / 2) n) :
    n = f ∨ n = f + 1 := by
  obtain ⟨low, high⟩ := abs_le.mp h.abs_sub_le_half
  have above : f ≤ n := by exact_mod_cast (by linarith : (f : ℚ) ≤ n)
  have below : n ≤ f + 1 := by exact_mod_cast (by linarith : (n : ℚ) ≤ f + 1)
  omega

theorem roundTie_eq_lower_or_upper (mode : Rounding) (f : ℤ) : roundTie mode f = f ∨ roundTie mode f = f + 1 := by
  unfold roundTie
  split <;> split <;> simp

theorem roundsTo_tie_iff (mode : Rounding) (f n : ℤ) : RoundsTo mode (f + 1 / 2) n ↔ n = roundTie mode f := by
  constructor
  · intro h
    obtain rfl | rfl := eq_lower_or_upper_of_roundsTo_tie h
    · exact (roundsTo_tie_lower mode _).mp h
    · exact (roundsTo_tie_upper mode f).mp h
  · rintro rfl
    obtain lower | upper := roundTie_eq_lower_or_upper mode f
    · rw [lower]; exact (roundsTo_tie_lower mode f).mpr lower.symm
    · rw [upper]; exact (roundsTo_tie_upper mode f).mpr upper.symm

/-- The model's rounding, said with Mathlib's floor. -/
theorem roundRat_eq_ite_floor (mode : Rounding) (x : ℚ) :
    roundRat mode x =
      if x - ⌊x⌋ < 1 / 2 then ⌊x⌋ else if 1 / 2 < x - ⌊x⌋ then ⌊x⌋ + 1 else roundTie mode ⌊x⌋ := rfl

/-- What the model's rounding answers, by where `x` lies above its floor. -/
theorem roundRat_cases (mode : Rounding) (x : ℚ) :
    (|x - ⌊x⌋| < 1 / 2 ∧ roundRat mode x = ⌊x⌋) ∨
    (|x - (⌊x⌋ + 1 : ℤ)| < 1 / 2 ∧ roundRat mode x = ⌊x⌋ + 1) ∨
    (x = ⌊x⌋ + 1 / 2 ∧ roundRat mode x = roundTie mode ⌊x⌋) := by
  have floor_le : (⌊x⌋ : ℚ) ≤ x := Int.floor_le x
  have lt_succ : x < ⌊x⌋ + 1 := Int.lt_floor_add_one x
  rw [roundRat_eq_ite_floor]
  split_ifs with below above
  · exact .inl ⟨by rwa [abs_of_nonneg (by linarith)], rfl⟩
  · exact .inr (.inl ⟨by push_cast; rw [abs_of_neg (by linarith)]; linarith, rfl⟩)
  · exact .inr (.inr ⟨by linarith, rfl⟩)

/-- Settles O12, by where `x` lies: nearer to one of its neighbours, or half-way between them. -/
theorem roundingIsNearestWithTheNamedTie : Obligations.RoundingIsNearestWithTheNamedTie := by
  intro mode x n
  obtain ⟨near, answer⟩ | ⟨near, answer⟩ | ⟨tie, answer⟩ := roundRat_cases mode x
  · rw [answer]; exact roundsTo_iff_eq_of_near mode near n
  · rw [answer]; exact roundsTo_iff_eq_of_near mode near n
  · rw [answer, ← roundsTo_tie_iff, ← tie]

end Sys2Proof.Machine
end

section
/-! Every response the block can make is sound (30_encoding.md rules R67 to R70, 60_exceptions.md rule R209). -/

namespace Sys2Proof.Machine

/-- The outcomes the block itself produces are those up to `ILLEGAL_REQUEST` (60_exceptions.md rule R209). -/
theorem raise_sound {e : Status} (produced : e.code.toNat ≤ 6) : (raise e).Sound where
  status_le := produced
  len_le := Nat.zero_le _
  cmd_le := Nat.zero_le _
  rsvr_zero := rfl
  rest_zero := fun i _ hi => by
    obtain ⟨_, _, _, _, zeros⟩ := raise_spec e
    exact zeros i hi
  fault_empty := fun _ => ⟨rfl, rfl⟩

theorem payloadByte_of_length_le {bytes : List Nat} {i : Nat} (h : bytes.length ≤ i) : payloadByte bytes i = 0 := by
  rw [payloadByte, List.getD_eq_default _ _ h]
  rfl

theorem emit_byteAt (cmd : CommandClass) (bytes : List Nat) {i : Nat} (hi : i < 8) :
    (emit cmd bytes).byteAt i = payloadByte bytes i := by
  interval_cases i <;> rfl

theorem emit_len_toNat (cmd : CommandClass) {bytes : List Nat} (short : bytes.length ≤ 8) :
    (emit cmd bytes).len.toNat = bytes.length := by
  simp only [emit, BitVec.toNat_ofNat]
  omega

theorem CommandClass.code_toNat_le (cmd : CommandClass) : cmd.code.toNat ≤ 2 := by
  cases cmd <;> decide

theorem emit_sound (cmd : CommandClass) {bytes : List Nat} (short : bytes.length ≤ 8) : (emit cmd bytes).Sound where
  status_le := by simp [emit, Status.code]
  len_le := by rwa [emit_len_toNat cmd short]
  cmd_le := cmd.code_toNat_le
  rsvr_zero := rfl
  rest_zero := fun i beyond hi => by
    rw [emit_len_toNat cmd short] at beyond
    rw [emit_byteAt cmd bytes hi, payloadByte_of_length_le beyond]
    rfl
  fault_empty := fun h => absurd rfl h

/-- A check that raises an outcome the block produces keeps what follows it sound. -/
theorem ite_raise_sound {fails : Prop} [Decidable fails] {e : Status} {r : Response} (produced : e.code.toNat ≤ 6)
    (h : r.Sound) : (if fails then raise e else r).Sound := by
  split
  · exact raise_sound produced
  · exact h

theorem oneByteResponse_sound (v : Int) : (oneByteResponse v).Sound :=
  ite_raise_sound (by decide) (emit_sound _ (by simp))

theorem twoByteResponse_sound (v : Int) : (twoByteResponse v).Sound :=
  ite_raise_sound (by decide) (emit_sound _ (by simp))

theorem signedAngleByteResponse_sound (a : Int) : (signedAngleByteResponse a).Sound :=
  ite_raise_sound (by decide) (emit_sound _ (by simp))

theorem colorResponse_sound (cfg : Params) (q0 q1 q2 : RatPort) : (colorResponse cfg q0 q1 q2).Sound :=
  ite_raise_sound (by decide) (emit_sound _ (by simp))

theorem strictFault_cases {dist deg : Int} {secs : Rat} {tm : Int} {e : Status}
    (h : strictFault dist deg secs tm = some e) : e = .rotationLimitExceeded ∨ e = .rangeError := by
  unfold strictFault at h
  split_ifs at h <;> cases h <;> simp

theorem pack_sound (cfg : Params) (dist deg : Int) (secs : Rat) (mode : Nat) :
    (pack cfg dist deg secs mode).Sound := by
  refine ite_raise_sound (by decide) ?_
  dsimp only
  split
  next e fault =>
    obtain ⟨_, strict⟩ := Option.ite_none_right_eq_some.mp fault
    obtain rfl | rfl := strictFault_cases strict <;> exact raise_sound (by decide)
  next => exact emit_sound _ (by simp [packBytes])

theorem packMoveResponse_sound (cfg : Params) (dist deg : Int) (q0 : RatPort) (mode : Nat) :
    (packMoveResponse cfg dist deg q0 mode).Sound :=
  ite_raise_sound (by decide) (pack_sound ..)

theorem turnResponse_sound (cfg : Params) (deg : Int) (q0 : RatPort) : (turnResponse cfg deg q0).Sound := by
  refine ite_raise_sound (by decide) (ite_raise_sound (by decide) ?_)
  split
  · exact emit_sound _ (by simp)
  · exact ite_raise_sound (by decide) (pack_sound ..)

theorem moveResponse_sound (cfg : Params) (dist : Int) (q0 : RatPort) (noTurn : Bool) :
    (moveResponse cfg dist q0 noTurn).Sound :=
  ite_raise_sound (by decide) (ite_raise_sound (by decide) (pack_sound ..))

theorem responseOf_sound (cfg : Params) (i : Instr) : (responseOf cfg i).Sound := by
  cases i with
  | oneByte v => exact oneByteResponse_sound v
  | twoByte v => exact twoByteResponse_sound v
  | signedAngleByte angle => exact signedAngleByteResponse_sound angle
  | color red green blue => exact colorResponse_sound cfg red green blue
  | stop => exact emit_sound _ (by simp)
  | drive speed => exact emit_sound _ (by simp)
  | spin speed => exact emit_sound _ (by simp)
  | turn degrees speedDps => exact turnResponse_sound cfg degrees speedDps
  | move distanceMm speedMmps noTurn => exact moveResponse_sound cfg distanceMm speedMmps noTurn
  | packMove distanceMm degrees seconds modeByte =>
    exact packMoveResponse_sound cfg distanceMm degrees seconds modeByte

theorem respond_of_decode_ok {cfg : Params} {req : Request} {i : Instr} (h : decode req = .ok i) :
    respond cfg req = responseOf cfg i := by
  simp only [respond, h]

theorem respond_of_decode_error {cfg : Params} {req : Request} {e : DecodeError} (h : decode req = .error e) :
    respond cfg req = raise .illegalRequest := by
  simp only [respond, h]

theorem respond_sound (cfg : Params) (req : Request) : (respond cfg req).Sound := by
  cases decoded : decode req with
  | error e => rw [respond_of_decode_error decoded]; exact raise_sound (by decide)
  | ok i => rw [respond_of_decode_ok decoded]; exact responseOf_sound cfg i

end Sys2Proof.Machine
end

section
/-! The slot of the interface: what a step does to `pending` and what it keeps (10_state.md rules R20, R27 and R28). -/

namespace Sys2Proof.Machine

/-- The state after the request on the bus has been accepted, where its handshake is complete. -/
def State.afterAccept (s : State) : State := if s.acceptEnabled then s.acceptRequested else s

section afterAccept
variable (s : State)

theorem afterAccept_of_enabled (h : s.acceptEnabled = true) : s.afterAccept = s.acceptRequested := if_pos h

@[simp] theorem afterAccept_cfg : s.afterAccept.cfg = s.cfg := by
  unfold State.afterAccept; split <;> rfl

@[simp] theorem afterAccept_rsp : s.afterAccept.rsp = s.rsp := by
  unfold State.afterAccept; split <;> rfl

@[simp] theorem afterAccept_delivered : s.afterAccept.delivered = s.delivered := by
  unfold State.afterAccept; split <;> rfl

@[simp] theorem afterAccept_deliverEnabled : s.afterAccept.deliverEnabled = s.deliverEnabled := by
  unfold State.afterAccept; split <;> rfl

@[simp] theorem afterAccept_pending : s.afterAccept.pending =
    s.pending ++ if s.acceptEnabled then [respond s.cfg s.pins.req] else [] := by
  unfold State.afterAccept
  split
  · rfl
  · rw [List.append_nil]

end afterAccept

/-- A slot without reset in which the requester keeps the handshake is the acceptance, where it is enabled, and the
close of the slot. -/
theorem step_eq_closeSlot_afterAccept {s : State} (running : s.pins.rst = false) (kept : s.handshakeBroken = false) :
    step s = .next s.afterAccept.closeSlot := by
  obtain ⟨reset, _⟩ | ⟨_, broken, _⟩ | ⟨_, _, accepts, answer⟩ | ⟨_, _, refuses, answer⟩ := step_cases s
  · exact absurd (running.symm.trans reset) Bool.false_ne_true
  · exact absurd (kept.symm.trans broken) Bool.false_ne_true
  · rw [answer, afterAccept_of_enabled s accepts]
  · rw [answer, State.afterAccept, refuses, if_neg Bool.false_ne_true]

/-- A step that answers a next state is a whole slot, with or without reset. -/
theorem next_of_step {s t : State} (h : step s = .next t) :
    (s.pins.rst = true ∧ t = s.resetSlot) ∨ (s.pins.rst = false ∧ t = s.afterAccept.closeSlot) := by
  obtain ⟨reset, answer⟩ | ⟨_, _, refusal⟩ | ⟨running, kept, _⟩ | ⟨running, kept, _⟩ := step_cases s
  · exact .inl ⟨reset, Host.Outcome.next.inj (h.symm.trans answer)⟩
  · cases h.symm.trans refusal
  all_goals
    exact .inr ⟨running, Host.Outcome.next.inj (h.symm.trans (step_eq_closeSlot_afterAccept running kept))⟩

theorem acceptEnabled_iff (s : State) :
    s.acceptEnabled = true ↔ s.pins.rst = false ∧ s.pins.reqValid = true ∧ s.reqReady = true := by
  simp [State.acceptEnabled, and_assoc]

theorem deliverEnabled_iff (s : State) :
    s.deliverEnabled = true ↔ s.pins.rst = false ∧ s.rspValid = true ∧ s.pins.rspReady = true := by
  simp [State.deliverEnabled, and_assoc]

/-- In a sound state the response on offer is the head of `pending`. -/
theorem State.Inv.exists_head {s : State} (inv : s.Inv) (offered : s.rspValid = true) :
    ∃ r rest, s.pending = r :: rest ∧ s.rsp = r.word := by
  obtain ⟨r, rest, waiting⟩ := List.exists_cons_of_ne_nil (inv.valid.mp offered).2
  exact ⟨r, rest, waiting, inv.head r rest offered waiting⟩

/-- A slot's delivery takes an old response, never the one the slot accepts. -/
theorem State.Inv.slot_pending {s : State} (inv : s.Inv) :
    s.afterAccept.closeSlot.pending =
      (if s.deliverEnabled then s.pending.tail else s.pending) ++
        if s.acceptEnabled then [respond s.cfg s.pins.req] else [] := by
  rw [closeSlot_pending, afterAccept_deliverEnabled, afterAccept_pending]
  split
  next delivers =>
    obtain ⟨_, offered, _⟩ := (deliverEnabled_iff s).mp delivers
    obtain ⟨r, rest, waiting, _⟩ := inv.exists_head offered
    rw [waiting, List.cons_append, List.tail_cons, List.tail_cons]
  next => rfl

/-- The consumer takes the word of the oldest waiting response. -/
theorem State.Inv.slot_delivered {s : State} (inv : s.Inv) :
    s.afterAccept.closeSlot.delivered =
      s.delivered ++ if s.deliverEnabled then (s.pending.take 1).map Response.word else [] := by
  rw [closeSlot_delivered, afterAccept_deliverEnabled, afterAccept_delivered, afterAccept_rsp]
  split
  next delivers =>
    obtain ⟨_, offered, _⟩ := (deliverEnabled_iff s).mp delivers
    obtain ⟨r, rest, waiting, onBus⟩ := inv.exists_head offered
    rw [waiting, onBus]
    rfl
  next => rw [List.append_nil]

/-- Driving the outputs makes them agree with `pending`, so only what waits there has to be sound. -/
theorem driveOutputs_inv {s : State} (legal : 1 ≤ s.cfg.maxOutstanding)
    (fits : s.pending.length ≤ s.cfg.maxOutstanding) (sound : ∀ r, r ∈ s.pending → r.Sound) :
    s.driveOutputs.Inv where
  legal := legal
  fits := fits
  sound := sound
  ready := by simp [State.readyNow]
  valid := by simp [State.validNow]
  head := fun r rest offered waiting => driveOutputs_rsp_head s r rest offered waiting

theorem resetSlot_inv {s : State} (legal : 1 ≤ s.cfg.maxOutstanding) : s.resetSlot.Inv :=
  driveOutputs_inv legal (Nat.zero_le _) fun _ mem => absurd mem List.not_mem_nil

theorem closeSlot_inv {s : State} (legal : 1 ≤ s.cfg.maxOutstanding)
    (fits : s.pending.length ≤ s.cfg.maxOutstanding) (sound : ∀ r, r ∈ s.pending → r.Sound) : s.closeSlot.Inv := by
  unfold State.closeSlot
  split
  · exact driveOutputs_inv legal ((List.tail_sublist _).length_le.trans fits) fun r mem =>
      sound r (List.mem_of_mem_tail mem)
  · exact driveOutputs_inv legal fits sound

/-- A request is accepted only where REQ_READY says there is room. -/
theorem State.Inv.afterAccept_fits {s : State} (inv : s.Inv) :
    s.afterAccept.pending.length ≤ s.afterAccept.cfg.maxOutstanding := by
  rw [afterAccept_pending, afterAccept_cfg, List.length_append]
  split
  next accepts =>
    obtain ⟨_, _, ready⟩ := (acceptEnabled_iff s).mp accepts
    exact (inv.ready.mp ready).2
  next => exact inv.fits

theorem State.Inv.afterAccept_sound {s : State} (inv : s.Inv) : ∀ r, r ∈ s.afterAccept.pending → r.Sound := by
  intro r mem
  rw [afterAccept_pending, List.mem_append] at mem
  obtain old | new := mem
  · exact inv.sound r old
  · split at new
    · rw [List.mem_singleton.mp new]
      exact respond_sound s.cfg s.pins.req
    · exact absurd new List.not_mem_nil

/-- Settles O37: both kinds of slot end by driving the outputs, and acceptance keeps `pending` within its bounds. -/
theorem everyStepKeepsTheInterfaceSound : Obligations.EveryStepKeepsTheInterfaceSound := by
  intro s t inv answer
  obtain ⟨_, rfl⟩ | ⟨_, rfl⟩ := next_of_step answer
  · exact resetSlot_inv inv.legal
  · exact closeSlot_inv ((afterAccept_cfg s).symm ▸ inv.legal) inv.afterAccept_fits inv.afterAccept_sound

/-- Settles O36: the slot's two transaction steps, with their enabling conditions read off in a slot without reset. -/
theorem stepIsAcceptAndDeliver : Obligations.StepIsAcceptAndDeliver := by
  intro s inv running kept
  have accepts : s.acceptEnabled = true ↔ s.pins.reqValid = true ∧ s.reqReady = true := by
    rw [acceptEnabled_iff, and_iff_right running]
  have delivers : s.deliverEnabled = true ↔ s.rspValid = true ∧ s.pins.rspReady = true := by
    rw [deliverEnabled_iff, and_iff_right running]
  refine ⟨s.afterAccept.closeSlot, step_eq_closeSlot_afterAccept running kept, ?_, ?_, ?_⟩
  · rw [closeSlot_cfg, afterAccept_cfg]
  · simp only [inv.slot_pending, accepts, delivers]
  · simp only [inv.slot_delivered, delivers]

theorem pack_congr {cfg cfg' : Params} (strict : cfg.strictFields = cfg'.strictFields)
    (rounding : cfg.rounding = cfg'.rounding) : pack cfg = pack cfg' := by
  funext dist deg secs mode
  simp only [pack, strict, rounding]

/-- `MAX_OUTSTANDING` is the one parameter no response reads. -/
theorem responseOf_congr {cfg cfg' : Params} (strict : cfg.strictFields = cfg'.strictFields)
    (rounding : cfg.rounding = cfg'.rounding) (i : Instr) : responseOf cfg i = responseOf cfg' i := by
  cases i with
  | color red green blue => simp only [responseOf, colorResponse, rounding]
  | turn degrees speedDps => simp only [responseOf, turnResponse, pack_congr strict rounding]
  | move distanceMm speedMmps noTurn => simp only [responseOf, moveResponse, pack_congr strict rounding]
  | packMove distanceMm degrees seconds modeByte => simp only [responseOf, packMoveResponse, pack_congr strict rounding]
  | _ => rfl

theorem respond_congr {cfg cfg' : Params} (strict : cfg.strictFields = cfg'.strictFields)
    (rounding : cfg.rounding = cfg'.rounding) (req : Request) : respond cfg req = respond cfg' req := by
  cases decoded : decode req with
  | error e => rw [respond_of_decode_error decoded, respond_of_decode_error decoded]
  | ok i => rw [respond_of_decode_ok decoded, respond_of_decode_ok decoded, responseOf_congr strict rounding]

/-- The response of the request a slot accepts is the newest in `pending` after it. -/
theorem State.Inv.getLast?_of_accepting_step {s t : State} (inv : s.Inv) (accepts : s.acceptEnabled = true)
    (answer : step s = .next t) : t.pending.getLast? = some (respond s.cfg s.pins.req) := by
  obtain ⟨reset, _⟩ | ⟨_, rfl⟩ := next_of_step answer
  · obtain ⟨running, _⟩ := (acceptEnabled_iff s).mp accepts
    exact absurd (running.symm.trans reset) Bool.false_ne_true
  · rw [inv.slot_pending, if_pos accepts, List.getLast?_concat]

/-- Settles O45: each block's newest response is the response function of the one request, which reads only
`STRICT_FIELDS` and `ROUNDING`. -/
theorem responseDependsOnTheRequestAlone : Obligations.ResponseDependsOnTheRequestAlone := by
  intro s s' t t' inv inv' strict rounding sameReq accepts accepts' answer answer'
  refine ⟨_, inv.getLast?_of_accepting_step accepts answer, ?_, rfl⟩
  rw [inv'.getLast?_of_accepting_step accepts' answer', sameReq, respond_congr strict rounding]

/-- Settles O35: `exec` of the decoded operation is the acceptance of the request on the bus. -/
theorem acceptingStepRunsTheDecodedInstruction : Obligations.AcceptingStepRunsTheDecodedInstruction := by
  intro s t i running kept valid ready decoded effect
  have accepted : t = s.afterAccept := by
    rw [afterAccept_of_enabled s ((acceptEnabled_iff s).mpr ⟨running, valid, ready⟩), State.acceptRequested,
      respond_of_decode_ok decoded]
    exact Host.Outcome.next.inj (effect.symm.trans (exec_eq_accept i s))
  rw [accepted]
  exact step_eq_closeSlot_afterAccept running kept

/-- Settles O38: with nothing pending, the reset state's outputs are the ones its pins call for. -/
theorem resetStateIsSound : Obligations.ResetStateIsSound := by
  have driven : State.reset.driveOutputs = State.reset := rfl
  rw [Obligations.ResetStateIsSound, ← driven]
  exact driveOutputs_inv le_rfl (Nat.zero_le _) fun _ mem => absurd mem List.not_mem_nil

end Sys2Proof.Machine
end

section
/-! What an operation answers: a fault, or the payload of its class and length (20_memory.md rule R44). -/

namespace Sys2Proof.Machine

/-- All a response of an operation can be: a fault, or a payload of `n` bytes in the class `cmd`. -/
def RaisesOrEmits (r : Response) (cmd : CommandClass) (n : Nat) : Prop :=
  (∃ e : Status, e.code ≠ 0 ∧ r = raise e) ∨ ∃ bytes : List Nat, bytes.length = n ∧ r = emit cmd bytes

theorem raise_raisesOrEmits {e : Status} (faults : e.code ≠ 0) (cmd : CommandClass) (n : Nat) :
    RaisesOrEmits (raise e) cmd n := .inl ⟨e, faults, rfl⟩

theorem emit_raisesOrEmits (cmd : CommandClass) (bytes : List Nat) :
    RaisesOrEmits (emit cmd bytes) cmd bytes.length := .inr ⟨bytes, rfl, rfl⟩

/-- A check that raises leaves the class and the length of what follows it. -/
theorem ite_raise_raisesOrEmits {fails : Prop} [Decidable fails] {e : Status} {r : Response} {cmd : CommandClass}
    {n : Nat} (faults : e.code ≠ 0) (h : RaisesOrEmits r cmd n) :
    RaisesOrEmits (if fails then raise e else r) cmd n := by
  split
  · exact raise_raisesOrEmits faults cmd n
  · exact h

theorem pack_raisesOrEmits (cfg : Params) (dist deg : Int) (secs : Rat) (mode : Nat) :
    RaisesOrEmits (pack cfg dist deg secs mode) .move 8 := by
  refine ite_raise_raisesOrEmits (by decide) ?_
  dsimp only
  split
  next e fault =>
    obtain ⟨_, strict⟩ := Option.ite_none_right_eq_some.mp fault
    obtain rfl | rfl := strictFault_cases strict <;> exact raise_raisesOrEmits (by decide) ..
  next => exact emit_raisesOrEmits ..

/-- The payload length of an operation that succeeds (20_memory.md rule R44). -/
def payloadLength : Instr → Nat
  | .oneByte .. | .signedAngleByte .. => 1
  | .twoByte .. => 2
  | .color .. | .stop | .drive .. | .spin .. => 3
  | .turn degrees _ => if degrees = 0 then 0 else 8
  | .move .. | .packMove .. => 8

/-- The command class of an operation that succeeds (30_encoding.md rule R70). -/
def commandClass : Instr → CommandClass
  | .oneByte .. | .twoByte .. | .signedAngleByte .. | .color .. => .fragment
  | .stop | .drive .. | .spin .. => .drive
  | .turn degrees _ => if degrees = 0 then .fragment else .move
  | .move .. | .packMove .. => .move

theorem payloadLength_le (i : Instr) : payloadLength i ≤ 8 := by
  cases i with
  | turn degrees speedDps => rw [payloadLength]; split <;> decide
  | _ => exact Nat.le_of_ble_eq_true rfl

/-- TURN has no packet to send at 0 degrees (43_motion_pack.md rule R160). -/
theorem turnResponse_raisesOrEmits (cfg : Params) (deg : Int) (q0 : RatPort) :
    RaisesOrEmits (turnResponse cfg deg q0) (commandClass (.turn deg q0)) (payloadLength (.turn deg q0)) := by
  refine ite_raise_raisesOrEmits (by decide) (ite_raise_raisesOrEmits (by decide) ?_)
  rw [commandClass, payloadLength]
  split
  · exact emit_raisesOrEmits .fragment []
  · exact ite_raise_raisesOrEmits (by decide) (pack_raisesOrEmits ..)

theorem responseOf_raisesOrEmits (cfg : Params) (i : Instr) :
    RaisesOrEmits (responseOf cfg i) (commandClass i) (payloadLength i) := by
  cases i with
  | oneByte v | twoByte v | signedAngleByte v =>
    exact ite_raise_raisesOrEmits (by decide) (emit_raisesOrEmits ..)
  | color red green blue => exact ite_raise_raisesOrEmits (by decide) (emit_raisesOrEmits ..)
  | stop => exact emit_raisesOrEmits ..
  | drive speed | spin speed => exact emit_raisesOrEmits ..
  | turn degrees speedDps => exact turnResponse_raisesOrEmits cfg degrees speedDps
  | move distanceMm speedMmps noTurn =>
    exact ite_raise_raisesOrEmits (by decide) (ite_raise_raisesOrEmits (by decide) (pack_raisesOrEmits ..))
  | packMove distanceMm degrees seconds modeByte =>
    exact ite_raise_raisesOrEmits (by decide) (pack_raisesOrEmits ..)

/-- An operation that succeeds emits the payload of its class and length. -/
theorem responseOf_eq_emit {cfg : Params} {i : Instr} (succeeds : (responseOf cfg i).status = 0) :
    ∃ bytes : List Nat, bytes.length = payloadLength i ∧ responseOf cfg i = emit (commandClass i) bytes := by
  obtain ⟨e, faults, answer⟩ | emits := responseOf_raisesOrEmits cfg i
  · rw [answer] at succeeds
    exact absurd succeeds faults
  · exact emits

theorem responseOf_len {cfg : Params} {i : Instr} (succeeds : (responseOf cfg i).status = 0) :
    (responseOf cfg i).len.toNat = payloadLength i := by
  obtain ⟨bytes, length, answer⟩ := responseOf_eq_emit succeeds
  rw [answer, emit_len_toNat _ (length ▸ payloadLength_le i), length]

/-- Settles O27: a sound response with a fault is empty, and one without is the payload its operation emits. -/
theorem payloadLengthsAreTheTable : Obligations.PayloadLengthsAreTheTable := by
  intro cfg req
  refine ⟨fun faults => ?_, fun i decoded succeeds => ?_⟩
  · have code : (respond cfg req).status.toNat ≠ 0 := fun zero => faults (BitVec.eq_of_toNat_eq zero)
    obtain ⟨empty, _⟩ := (respond_sound cfg req).fault_empty code
    exact BitVec.eq_of_toNat_eq empty
  · rw [respond_of_decode_ok decoded] at succeeds ⊢
    rw [responseOf_len succeeds]
    cases i <;> rfl

end Sys2Proof.Machine
end

section
/-! Runs of the interface: what has been answered at the end of any number of slots (20_memory.md rule R49). -/

namespace Sys2Proof.Machine

/-- A run of one step more is a step and the run from the state after it. -/
theorem run_succ_eq_next {M : Host.Core} {n : Nat} {s u : M.State} (h : M.run (n + 1) s = .next u) :
    ∃ t, M.step s = .next t ∧ M.run n t = .next u := by
  rw [Host.Core.run] at h
  split at h
  next t answer => exact ⟨t, answer, h⟩
  next => cases h
  next => cases h

theorem acceptedOver_succ {s t : State} (n : Nat) (answer : step s = .next t) :
    acceptedOver (n + 1) s = (if s.acceptEnabled then [s.pins.req] else []) ++ acceptedOver n t := by
  rw [acceptedOver, answer]

/-- A delivery moves the oldest waiting word to the consumer and leaves the words answered as they were; an acceptance
adds the word of its own request. -/
theorem State.Inv.slot_answers {s : State} (inv : s.Inv) :
    s.afterAccept.closeSlot.answers =
      s.answers ++ (if s.acceptEnabled then [s.pins.req] else []).map fun req => (respond s.cfg req).word := by
  have taken : (if s.deliverEnabled then (s.pending.take 1).map Response.word else []) ++
      (if s.deliverEnabled then s.pending.tail else s.pending).map Response.word = s.pending.map Response.word := by
    split
    · rw [← List.drop_one, ← List.map_append, List.take_append_drop]
    · rfl
  have added : (if s.acceptEnabled then [respond s.cfg s.pins.req] else []).map Response.word =
      (if s.acceptEnabled then [s.pins.req] else []).map fun req => (respond s.cfg req).word := by
    split <;> rfl
  simp only [State.answers, inv.slot_delivered, inv.slot_pending, List.map_append, added, ← taken, List.append_assoc]

/-- Settles O44, by induction on the number of steps: each slot adds the answer of the request it accepts, and keeps the
parameters and the soundness of the interface. -/
theorem answersComeInTheOrderOfAcceptance : Obligations.AnswersComeInTheOrderOfAcceptance := by
  intro n
  induction n with
  | zero =>
    intro s t _ _ run
    obtain rfl : s = t := Host.Outcome.next.inj run
    exact (List.append_nil _).symm
  | succ n ih =>
    intro s u inv free run
    obtain ⟨t, answer, rest⟩ := run_succ_eq_next run
    obtain ⟨running, later⟩ := free
    have tail := ih t u (everyStepKeepsTheInterfaceSound s t inv answer) (later t answer) rest
    obtain ⟨reset, _⟩ | ⟨_, slot⟩ := next_of_step answer
    · exact absurd (running.symm.trans reset) Bool.false_ne_true
    · rw [acceptedOver_succ n answer, List.map_append, ← List.append_assoc, ← inv.slot_answers, ← slot, tail, slot,
        closeSlot_cfg, afterAccept_cfg]

end Sys2Proof.Machine
end


section
/-! Reading an operation from the request bus: which requests select it, and which operands they carry
(30_encoding.md rules R61 to R66 and R71). -/

namespace Sys2Proof

open Machine

/-- The reserved bits of a request are 0 (30_encoding.md rule R62). -/
structure Request.ReservedZero (r : Request) : Prop where
  rsv0 : r.rsv0 = 0
  rsv1 : r.rsv1 = 0
  rsv2 : r.rsv2 = 0

/-- The fields of a request that an operation reads hold its operands (30_encoding.md rule R65). -/
def Request.Carries (r : Request) : Instr → Prop
  | .oneByte v | .twoByte v | .signedAngleByte v | .drive v | .spin v => r.i0 = v
  | .color red green blue => r.q0 = red ∧ r.q1 = green ∧ r.q2 = blue
  | .stop => True
  | .turn degrees speedDps => r.i0 = degrees ∧ r.q0 = speedDps
  | .move distanceMm speedMmps noTurn => r.i0 = distanceMm ∧ r.q0 = speedMmps ∧ r.flag = noTurn
  | .packMove distanceMm degrees seconds modeByte =>
    r.i0 = distanceMm ∧ r.i1 = degrees ∧ r.q0 = seconds ∧ r.mode.toNat = modeByte

/-- The check with which `decode` begins is on the reserved bits alone. -/
theorem Request.reservedZero_iff (r : Request) :
    r.ReservedZero ↔ ¬(r.rsv0 ≠ 0 ∨ r.rsv1 ≠ 0 ∨ r.rsv2 ≠ 0) := by
  simp only [ne_eq, not_or, not_not]
  exact ⟨fun h => ⟨h.rsv0, h.rsv1, h.rsv2⟩, fun ⟨h0, h1, h2⟩ => ⟨h0, h1, h2⟩⟩

/-- All that decoding to an operation says of a request. -/
theorem decode_eq_ok_iff (r : Request) (i : Instr) :
    decode r = .ok i ↔ r.ReservedZero ∧ r.opsel.toNat = opselOf i ∧ r.Carries i := by
  constructor
  · intro decoded
    unfold decode at decoded
    split at decoded
    next => cases decoded
    next legal =>
      split at decoded <;> cases decoded
      all_goals exact ⟨r.reservedZero_iff.mpr legal, ‹_›, by simp only [Request.Carries, and_self]⟩
  · rintro ⟨reserved, opsel, carries⟩
    rw [decode, if_neg (r.reservedZero_iff.mp reserved), opsel]
    cases i with
    | oneByte v | twoByte v | signedAngleByte v | drive v | spin v =>
      obtain rfl : r.i0 = v := carries
      rfl
    | stop => rfl
    | color red green blue =>
      obtain ⟨rfl, rfl, rfl⟩ := carries
      rfl
    | turn degrees speedDps =>
      obtain ⟨rfl, rfl⟩ := carries
      rfl
    | move distanceMm speedMmps noTurn =>
      obtain ⟨rfl, rfl, rfl⟩ := carries
      rfl
    | packMove distanceMm degrees seconds modeByte =>
      obtain ⟨rfl, rfl, rfl, rfl⟩ := carries
      rfl

/-- A number that fits the `MODE` field is read back from it. -/
theorem ofNat8_toNat (v : Nat) (h : fitsByte v = true) : (BitVec.ofNat 8 v).toNat = v := by
  simp only [fitsByte, decide_eq_true_eq] at h
  rw [BitVec.toNat_ofNat]
  omega

theorem encode_reservedZero (i : Instr) : (encode i).ReservedZero := by
  cases i <;> exact ⟨requestOf_rsv0 .., requestOf_rsv1 .., requestOf_rsv2 ..⟩

theorem encode_opsel (i : Instr) : (encode i).opsel.toNat = opselOf i := by
  cases i <;> rw [encode, requestOf_opsel] <;> rfl

/-- Operands that fit their fields stand in the request that is written for them. -/
theorem encode_carries {i : Instr} (fits : i.wellFormed = true) : (encode i).Carries i := by
  cases i with
  | oneByte v | twoByte v | signedAngleByte v | drive v | spin v =>
    exact (requestOf_i0 ..).trans (ofInt32_toInt v fits)
  | stop => trivial
  | color red green blue =>
    simp only [Instr.wellFormed, Bool.and_eq_true] at fits
    obtain ⟨⟨hred, hgreen⟩, hblue⟩ := fits
    simp only [encode, Request.Carries, requestOf_q0, requestOf_q1, requestOf_q2, RatPort.onBus_eq, hred, hgreen,
      hblue, and_self]
  | turn degrees speedDps =>
    simp only [Instr.wellFormed, Bool.and_eq_true] at fits
    obtain ⟨hdegrees, hspeed⟩ := fits
    simp only [encode, Request.Carries, requestOf_i0, requestOf_q0, ofInt32_toInt, RatPort.onBus_eq, hdegrees, hspeed,
      and_self]
  | move distanceMm speedMmps noTurn =>
    simp only [Instr.wellFormed, Bool.and_eq_true] at fits
    obtain ⟨hdistance, hspeed⟩ := fits
    simp only [encode, Request.Carries, requestOf_i0, requestOf_q0, requestOf_flag, ofInt32_toInt, RatPort.onBus_eq,
      hdistance, hspeed, and_self]
  | packMove distanceMm degrees seconds modeByte =>
    simp only [Instr.wellFormed, Bool.and_eq_true] at fits
    obtain ⟨⟨⟨hdistance, hdegrees⟩, hseconds⟩, hmode⟩ := fits
    simp only [encode, Request.Carries, requestOf_i0, requestOf_i1, requestOf_q0, requestOf_mode, ofInt32_toInt,
      RatPort.onBus_eq, ofNat8_toNat, hdistance, hdegrees, hseconds, hmode, and_self]

/-- Settles O30: the request written for an operation selects it, and its fields hold the operands. -/
theorem decodeReadsBackEveryEncodedOperation : Obligations.DecodeReadsBackEveryEncodedOperation := by
  intro i fits
  exact (decode_eq_ok_iff _ i).mpr ⟨encode_reservedZero i, encode_opsel i, encode_carries fits⟩

/-- A word the assembler writes for an operation decodes to it. -/
theorem decode_of_encode_eq {i : Instr} {w : Request} (fits : i.wellFormed = true) (written : encode i = w) :
    decode w = .ok i :=
  written ▸ decodeReadsBackEveryEncodedOperation i fits

/-- Settles O34: each word is the one the assembler writes for its operation. -/
theorem wordsOfTheSpecDecodeAsTheyRead : Obligations.WordsOfTheSpecDecodeAsTheyRead := by
  refine ⟨?_, ?_, ?_, ?_, ?_⟩
  all_goals exact decode_of_encode_eq (by decide) (by decide +kernel)

end Sys2Proof
end

section
/-! The control word under the mask of 30_encoding.md rule R71, and the operands a decoded request can carry. -/

namespace Sys2Proof

open Machine

/-- Words side by side are equal exactly where each is. -/
theorem append_eq_append_iff {w v : Nat} {x x' : BitVec w} {y y' : BitVec v} :
    x ++ y = x' ++ y' ↔ x = x' ∧ y = y' := by
  refine ⟨fun h => ⟨?_, ?_⟩, fun ⟨hx, hy⟩ => hx ▸ hy ▸ rfl⟩
  · simpa [BitVec.extractLsb'_append_eq_of_le] using congrArg (BitVec.extractLsb' v w) h
  · simpa [BitVec.extractLsb'_append_eq_of_add_le] using congrArg (BitVec.extractLsb' 0 v) h

/-- The six fields of a control word side by side, at the width their lengths add up to (30_encoding.md rule R61). -/
def controlOf (rsv2 mode : BitVec 8) (rsv1 : BitVec 7) (flag : BitVec 1) (rsv0 opsel : BitVec 4) :
    BitVec (8 + 8 + 7 + 1 + 4 + 4) := rsv2 ++ mode ++ rsv1 ++ flag ++ rsv0 ++ opsel

theorem control_eq_controlOf (r : Request) :
    r.extractLsb' 0 32 = controlOf r.rsv2 r.mode r.rsv1 (r.extractLsb' 8 1) r.rsv0 r.opsel := by
  simp only [controlOf, Request.rsv2, Request.mode, Request.rsv1, Request.rsv0, Request.opsel,
    BitVec.extractLsb'_append_extractLsb'_eq_extractLsb']

section controlOf
variable (rsv2 mode rsv2' mode' : BitVec 8) (rsv1 rsv1' : BitVec 7) (flag flag' : BitVec 1)
  (rsv0 opsel rsv0' opsel' : BitVec 4)

theorem controlOf_and :
    controlOf rsv2 mode rsv1 flag rsv0 opsel &&& controlOf rsv2' mode' rsv1' flag' rsv0' opsel' =
      controlOf (rsv2 &&& rsv2') (mode &&& mode') (rsv1 &&& rsv1') (flag &&& flag') (rsv0 &&& rsv0')
        (opsel &&& opsel') := by
  simp only [controlOf, BitVec.and_append]

theorem controlOf_inj :
    controlOf rsv2 mode rsv1 flag rsv0 opsel = controlOf rsv2' mode' rsv1' flag' rsv0' opsel' ↔
      rsv2 = rsv2' ∧ mode = mode' ∧ rsv1 = rsv1' ∧ flag = flag' ∧ rsv0 = rsv0' ∧ opsel = opsel' := by
  simp only [controlOf, append_eq_append_iff, and_assoc]

end controlOf

/-- The mask clears `FLAG` and `MODE` and nothing else of the control word. -/
theorem control_and_mask (r : Request) :
    r.extractLsb' 0 32 &&& 0xFF00FEFF#32 = controlOf r.rsv2 0 r.rsv1 0 r.rsv0 r.opsel := by
  have mask : 0xFF00FEFF#32 =
      controlOf (BitVec.allOnes 8) 0 (BitVec.allOnes 7) 0 (BitVec.allOnes 4) (BitVec.allOnes 4) := rfl
  rw [control_eq_controlOf, mask]
  refine (controlOf_and ..).trans ?_
  simp only [BitVec.and_allOnes, BitVec.and_zero, BitVec.ofNat_eq_ofNat]

/-- A control word matches `n` where the reserved bits are 0 and `OPSEL` is `n`. -/
theorem selectsOpsel_iff (r : Request) {n : Nat} (small : n < 16) :
    SelectsOpsel r n ↔ r.ReservedZero ∧ r.opsel.toNat = n := by
  have word : BitVec.ofNat 32 n = controlOf 0 0 0 0 0 (BitVec.ofNat 4 n) := by
    interval_cases n <;> rfl
  have opsel : r.opsel = BitVec.ofNat 4 n ↔ r.opsel.toNat = n := by
    rw [← BitVec.toNat_inj, BitVec.toNat_ofNat, Nat.mod_eq_of_lt small]
  rw [SelectsOpsel, control_and_mask, word, ← opsel]
  refine (controlOf_inj ..).trans ⟨?_, ?_⟩
  · rintro ⟨h2, -, h1, -, h0, hopsel⟩
    exact ⟨⟨h0, h1, h2⟩, hopsel⟩
  · rintro ⟨⟨h0, h1, h2⟩, hopsel⟩
    exact ⟨h2, rfl, h1, rfl, h0, hopsel⟩

theorem opselOf_pos (i : Instr) : 1 ≤ opselOf i := by
  cases i <;> exact Nat.le_of_ble_eq_true rfl

theorem opselOf_le (i : Instr) : opselOf i ≤ 0xA := by
  cases i <;> exact Nat.le_of_ble_eq_true rfl

/-- Whatever its fields hold, a request carries operands for each operation of the table. -/
theorem Request.exists_carries (r : Request) {n : Nat} (low : 1 ≤ n) (high : n ≤ 0xA) :
    ∃ i, opselOf i = n ∧ r.Carries i := by
  interval_cases n
  · exact ⟨.oneByte r.i0, rfl, rfl⟩
  · exact ⟨.twoByte r.i0, rfl, rfl⟩
  · exact ⟨.signedAngleByte r.i0, rfl, rfl⟩
  · exact ⟨.color r.q0 r.q1 r.q2, rfl, rfl, rfl, rfl⟩
  · exact ⟨.stop, rfl, trivial⟩
  · exact ⟨.drive r.i0, rfl, rfl⟩
  · exact ⟨.spin r.i0, rfl, rfl⟩
  · exact ⟨.turn r.i0 r.q0, rfl, rfl, rfl⟩
  · exact ⟨.move r.i0 r.q0 r.flag, rfl, rfl, rfl, rfl⟩
  · exact ⟨.packMove r.i0 r.i1 r.q0 r.mode.toNat, rfl, rfl, rfl, rfl, rfl⟩

theorem fitsS32_toInt (field : Field32) : fitsS32 field.toInt = true := by
  have low := field.le_toInt
  have high := field.toInt_lt
  simp only [fitsS32, decide_eq_true_eq]
  omega

theorem fitsU32_toNat (field : Field32) : fitsU32 field.toNat = true := decide_eq_true field.isLt

theorem fitsByte_toNat (field : Byte) : fitsByte field.toNat = true := decide_eq_true field.isLt

theorem Request.portAt_wellFormed (r : Request) (lo : Nat) : (r.portAt lo).wellFormed = true :=
  Bool.and_eq_true_iff.mpr ⟨fitsS32_toInt _, fitsU32_toNat _⟩

/-- The operands a request carries fit the fields they were read from. -/
theorem Request.Carries.wellFormed {r : Request} {i : Instr} (carries : r.Carries i) : i.wellFormed = true := by
  have port : r.q0.wellFormed = true := r.portAt_wellFormed 96
  cases i with
  | oneByte v | twoByte v | signedAngleByte v | drive v | spin v =>
    obtain rfl : r.i0 = v := carries
    exact fitsS32_toInt _
  | stop => rfl
  | color red green blue =>
    obtain ⟨rfl, rfl, rfl⟩ := carries
    have port1 : r.q1.wellFormed = true := r.portAt_wellFormed 160
    have port2 : r.q2.wellFormed = true := r.portAt_wellFormed 224
    simp only [Instr.wellFormed, port, port1, port2, Bool.and_self]
  | turn degrees speedDps =>
    obtain ⟨rfl, rfl⟩ := carries
    simp only [Instr.wellFormed, Request.i0, fitsS32_toInt, port, Bool.and_self]
  | move distanceMm speedMmps noTurn =>
    obtain ⟨rfl, rfl, rfl⟩ := carries
    simp only [Instr.wellFormed, Request.i0, fitsS32_toInt, port, Bool.and_self]
  | packMove distanceMm degrees seconds modeByte =>
    obtain ⟨rfl, rfl, rfl, rfl⟩ := carries
    simp only [Instr.wellFormed, Request.i0, Request.i1, fitsS32_toInt, fitsByte_toNat, port, Bool.and_self]

/-- Settles O31: the masked control word is `OPSEL` with the reserved bits, and every request has operands to carry. -/
theorem opselAloneSelectsTheOperation : Obligations.OpselAloneSelectsTheOperation := by
  intro req n
  refine ⟨⟨?_, ?_⟩, ?_⟩
  · rintro ⟨i, decoded, rfl⟩
    obtain ⟨reserved, opsel, _⟩ := (decode_eq_ok_iff req i).mp decoded
    have high := opselOf_le i
    exact ⟨(selectsOpsel_iff req (by omega)).mpr ⟨reserved, opsel⟩, opselOf_pos i, high⟩
  · rintro ⟨selects, low, high⟩
    obtain ⟨reserved, opsel⟩ := (selectsOpsel_iff req (by omega)).mp selects
    obtain ⟨i, rfl, carries⟩ := req.exists_carries low high
    exact ⟨i, (decode_eq_ok_iff req i).mpr ⟨reserved, opsel, carries⟩, rfl⟩
  · intro i decoded
    obtain ⟨_, _, carries⟩ := (decode_eq_ok_iff req i).mp decoded
    exact carries.wellFormed

end Sys2Proof
end

section
/-! The bits an operation reads: those outside them change no response, and the assembler leaves them 0
(30_encoding.md rules R65, R66 and R78). -/

namespace Sys2Proof

open Machine

/-- The operation reads every bit of the field of `len` bits at `lo`. -/
def ReadsField (i : Instr) (lo len : Nat) : Prop := (readBits i).extractLsb' lo len = BitVec.allOnes len

/-- Requests that agree on the bits an operation reads agree on each field it reads. -/
theorem ReadsField.extract_eq {i : Instr} {r r' : Request} {lo len : Nat} (reads : ReadsField i lo len)
    (same : r &&& readBits i = r' &&& readBits i) : r.extractLsb' lo len = r'.extractLsb' lo len := by
  have fields := congrArg (BitVec.extractLsb' lo len) same
  rwa [BitVec.extractLsb'_and, BitVec.extractLsb'_and, reads, BitVec.and_allOnes, BitVec.and_allOnes] at fields

/-- `OPSEL` and the reserved bits are read for every operation. -/
theorem readsField_of_control (i : Instr) {lo len : Nat}
    (inMask : (0xFF00FEFF#288).extractLsb' lo len = BitVec.allOnes len) : ReadsField i lo len := by
  unfold ReadsField readBits
  rw [BitVec.extractLsb'_or, inMask, BitVec.allOnes_or]

section agreement
variable {r r' : Request} {i : Instr}

theorem Request.ReservedZero.of_agree (reserved : r.ReservedZero) (same : r &&& readBits i = r' &&& readBits i) :
    r'.ReservedZero where
  rsv0 := ((readsField_of_control i (by decide +kernel)).extract_eq same).symm.trans reserved.rsv0
  rsv1 := ((readsField_of_control i (by decide +kernel)).extract_eq same).symm.trans reserved.rsv1
  rsv2 := ((readsField_of_control i (by decide +kernel)).extract_eq same).symm.trans reserved.rsv2

theorem opsel_eq_of_agree (same : r &&& readBits i = r' &&& readBits i) : r.opsel = r'.opsel :=
  (readsField_of_control i (by decide +kernel)).extract_eq same

theorem i0_eq_of_agree (same : r &&& readBits i = r' &&& readBits i) (reads : ReadsField i 32 32) : r.i0 = r'.i0 :=
  congrArg BitVec.toInt (reads.extract_eq same)

theorem i1_eq_of_agree (same : r &&& readBits i = r' &&& readBits i) (reads : ReadsField i 64 32) : r.i1 = r'.i1 :=
  congrArg BitVec.toInt (reads.extract_eq same)

theorem portAt_eq_of_agree (same : r &&& readBits i = r' &&& readBits i) {lo : Nat} (readsNum : ReadsField i lo 32)
    (readsDen : ReadsField i (lo + 32) 32) : r.portAt lo = r'.portAt lo := by
  rw [Request.portAt, Request.portAt, readsNum.extract_eq same, readsDen.extract_eq same]

theorem flag_eq_of_agree (same : r &&& readBits i = r' &&& readBits i) (reads : ReadsField i 8 1) :
    r.flag = r'.flag := by
  simpa only [Request.flag, BitVec.getLsbD_extractLsb', zero_lt_one, decide_true, Bool.true_and] using
    congrArg (BitVec.getLsbD · 0) (reads.extract_eq same)

theorem mode_eq_of_agree (same : r &&& readBits i = r' &&& readBits i) (reads : ReadsField i 16 8) :
    r.mode = r'.mode :=
  reads.extract_eq same

/-- The operands of an operation stand in the bits it reads. -/
theorem Request.Carries.of_agree (carries : r.Carries i) (same : r &&& readBits i = r' &&& readBits i) :
    r'.Carries i := by
  cases i with
  | oneByte v | twoByte v | signedAngleByte v | drive v | spin v =>
    refine (i0_eq_of_agree same ?_).symm.trans carries
    simp only [ReadsField, readBits]; decide +kernel
  | stop => trivial
  | color red green blue =>
    obtain ⟨rfl, rfl, rfl⟩ := carries
    refine ⟨(portAt_eq_of_agree same ?_ ?_).symm, (portAt_eq_of_agree same ?_ ?_).symm,
      (portAt_eq_of_agree same ?_ ?_).symm⟩
    all_goals simp only [ReadsField, readBits]; decide +kernel
  | turn degrees speedDps =>
    obtain ⟨rfl, rfl⟩ := carries
    refine ⟨(i0_eq_of_agree same ?_).symm, (portAt_eq_of_agree same ?_ ?_).symm⟩
    all_goals simp only [ReadsField, readBits]; decide +kernel
  | move distanceMm speedMmps noTurn =>
    obtain ⟨rfl, rfl, rfl⟩ := carries
    refine ⟨(i0_eq_of_agree same ?_).symm, (portAt_eq_of_agree same ?_ ?_).symm, (flag_eq_of_agree same ?_).symm⟩
    all_goals simp only [ReadsField, readBits]; decide +kernel
  | packMove distanceMm degrees seconds modeByte =>
    obtain ⟨rfl, rfl, rfl, rfl⟩ := carries
    refine ⟨(i0_eq_of_agree same ?_).symm, (i1_eq_of_agree same ?_).symm, (portAt_eq_of_agree same ?_ ?_).symm,
      congrArg BitVec.toNat (mode_eq_of_agree same ?_).symm⟩
    all_goals simp only [ReadsField, readBits]; decide +kernel

end agreement

/-- Settles O32: the bits an operation reads select it and hold its operands. -/
theorem fieldsNotReadHaveNoEffect : Obligations.FieldsNotReadHaveNoEffect := by
  intro cfg req req' i decoded same
  obtain ⟨reserved, opsel, carries⟩ := (decode_eq_ok_iff req i).mp decoded
  have decoded' : decode req' = .ok i :=
    (decode_eq_ok_iff req' i).mpr
      ⟨reserved.of_agree same, opsel_eq_of_agree same ▸ opsel, carries.of_agree same⟩
  exact ⟨decoded', by rw [respond_of_decode_ok decoded', respond_of_decode_ok decoded]⟩

/-- A port with every bit of both fields 1. -/
def RatPort.ones : RatPort := { num := -1, den := 0xFFFFFFFF }

/-- The bits of the request bus an operation does not read, field by field (30_encoding.md rule R65). -/
def unreadBits : Instr → Request
  | .oneByte .. | .twoByte .. | .signedAngleByte .. | .drive .. | .spin .. =>
    requestOf 0 true 0xFF 0 (-1) .ones .ones .ones
  | .color .. => requestOf 0 true 0xFF (-1) (-1) .unread .unread .unread
  | .stop => requestOf 0 true 0xFF (-1) (-1) .ones .ones .ones
  | .turn .. => requestOf 0 true 0xFF 0 (-1) .unread .ones .ones
  | .move .. => requestOf 0 false 0xFF 0 (-1) .unread .ones .ones
  | .packMove .. => requestOf 0 true 0 0 0 .unread .ones .ones

theorem not_readBits (i : Instr) : ~~~readBits i = unreadBits i := by
  cases i <;> (simp only [readBits, unreadBits]; decide +kernel)

theorem fieldsOf_and (op op' : BitVec 4) (flag flag' : Bool) (mode mode' : BitVec 8) (i0 i0' i1 i1' : Int)
    (q0 q0' q1 q1' q2 q2' : RatPort) :
    fieldsOf op flag mode i0 i1 q0 q1 q2 &&& fieldsOf op' flag' mode' i0' i1' q0' q1' q2' =
      (q2.bits &&& q2'.bits) ++ (q1.bits &&& q1'.bits) ++ (q0.bits &&& q0'.bits) ++
        (BitVec.ofInt 32 i1 &&& BitVec.ofInt 32 i1') ++ (BitVec.ofInt 32 i0 &&& BitVec.ofInt 32 i0') ++ 0#8 ++
        (mode &&& mode') ++ 0#7 ++ (BitVec.ofBool flag &&& BitVec.ofBool flag') ++ 0#4 ++ (op &&& op') := by
  simp only [fieldsOf, BitVec.and_append, BitVec.and_zero]

/-- In each field, the operation's request or the bits it does not read are 0. -/
theorem encode_and_unreadBits (i : Instr) : encode i &&& unreadBits i = 0#288 := by
  have unread : RatPort.unread.bits = 0#64 := rfl
  have noInt : BitVec.ofInt 32 0 = 0#32 := rfl
  have noFlag : BitVec.ofBool false = 0#1 := rfl
  cases i
  all_goals
    refine (fieldsOf_and ..).trans ?_
    simp only [unread, noInt, noFlag, BitVec.and_zero, BitVec.zero_and, BitVec.ofNat_eq_ofNat,
      BitVec.zero_append_zero]

theorem assemble_op_eq_some_iff (i : Instr) (w : Request) :
    assemble (.op i) = some w ↔ i.wellFormed = true ∧ encode i = w := by
  rw [assemble, Option.ite_none_right_eq_some, Option.some_inj]

theorem assemble_op_eq_none_iff (i : Instr) : assemble (.op i) = none ↔ i.wellFormed = false := by
  rw [assemble, ite_eq_right_iff, ← Bool.not_eq_true]
  exact ⟨fun refused fits => Option.some_ne_none _ (refused fits), fun misfit fits => absurd fits misfit⟩

/-- Settles O33: what the assembler makes is `encode` of an operation that fits. -/
theorem assemblerPlacesOperandsAndZeroesTheRest : Obligations.AssemblerPlacesOperandsAndZeroesTheRest := by
  refine ⟨assemble_op_eq_none_iff, ?_, fun w => rfl⟩
  intro i w made
  obtain ⟨fits, written⟩ := (assemble_op_eq_some_iff i w).mp made
  refine ⟨decode_of_encode_eq fits written, ?_⟩
  rw [← written, not_readBits, encode_and_unreadBits]

end Sys2Proof
end

section
/-! What the fields of a response hold: the layout of its word, and the command class (30_encoding.md rules R67 and
R70). -/

namespace Sys2Proof.Machine

/-- Settles O28: a sound response with a fault is empty, and one without is emitted in the class of its operation. -/
theorem commandClassesAreTheTable : Obligations.CommandClassesAreTheTable := by
  intro cfg req
  refine ⟨fun faults => ?_, fun i decoded succeeds => ?_⟩
  · have code : (respond cfg req).status.toNat ≠ 0 := fun zero => faults (BitVec.eq_of_toNat_eq zero)
    obtain ⟨_, fragment⟩ := (respond_sound cfg req).fault_empty code
    exact fragment
  · rw [respond_of_decode_ok decoded] at succeeds ⊢
    obtain ⟨bytes, _, answer⟩ := responseOf_eq_emit succeeds
    rw [answer]
    change (commandClass i).code.toNat = _
    cases i with
    | turn degrees speedDps =>
      change _ = if degrees = 0 then 0 else 2
      rw [commandClass]
      split <;> rfl
    | _ => rfl

/-- The fields of a response side by side at the width their lengths add up to. -/
def Response.fields (r : Response) : BitVec (8 + 8 + 8 + 8 + 8 + 8 + 8 + 8 + 6 + 2 + 4 + 4) :=
  r.b7 ++ r.b6 ++ r.b5 ++ r.b4 ++ r.b3 ++ r.b2 ++ r.b1 ++ r.b0 ++ r.rsvr ++ r.cmd ++ r.len ++ r.status

section word
variable (r : Response)

theorem word_status : r.word.extractLsb' 0 4 = r.status := by
  change r.fields.extractLsb' 0 4 = _
  simp (disch := decide) only [Response.fields, BitVec.extractLsb'_append_eq_of_add_le, BitVec.extractLsb'_eq_self]

theorem word_len : r.word.extractLsb' 4 4 = r.len := by
  change r.fields.extractLsb' 4 4 = _
  simp (disch := decide) only [Response.fields, BitVec.extractLsb'_append_eq_of_le,
    BitVec.extractLsb'_append_eq_of_add_le, Nat.reduceSub, BitVec.extractLsb'_eq_self]

theorem word_cmd : r.word.extractLsb' 8 2 = r.cmd := by
  change r.fields.extractLsb' 8 2 = _
  simp (disch := decide) only [Response.fields, BitVec.extractLsb'_append_eq_of_le,
    BitVec.extractLsb'_append_eq_of_add_le, Nat.reduceSub, BitVec.extractLsb'_eq_self]

theorem word_rsvr : r.word.extractLsb' 10 6 = r.rsvr := by
  change r.fields.extractLsb' 10 6 = _
  simp (disch := decide) only [Response.fields, BitVec.extractLsb'_append_eq_of_le,
    BitVec.extractLsb'_append_eq_of_add_le, Nat.reduceSub, BitVec.extractLsb'_eq_self]

theorem word_byteAt {i : Nat} (hi : i < 8) : r.word.extractLsb' (16 + 8 * i) 8 = r.byteAt i := by
  change r.fields.extractLsb' (16 + 8 * i) 8 = _
  interval_cases i
  all_goals
    simp (disch := decide) only [Response.fields, BitVec.extractLsb'_append_eq_of_le,
      BitVec.extractLsb'_append_eq_of_add_le]
    exact BitVec.extractLsb'_eq_self

end word

/-- Settles O29: the layout of the word, with what a sound response holds in RSVR and LEN. -/
theorem responseWordHasTheBusLayout : Obligations.ResponseWordHasTheBusLayout := by
  refine ⟨fun r => ⟨word_status r, word_len r, word_cmd r, word_rsvr r, fun i hi => word_byteAt r hi⟩, ?_⟩
  intro cfg req
  rw [word_rsvr, word_len]
  have sound := respond_sound cfg req
  exact ⟨BitVec.eq_of_toNat_eq sound.rsvr_zero, sound.len_le⟩

end Sys2Proof.Machine
end

section
/-! Only the value of a rational port matters (30_encoding.md rule R64). -/

namespace Sys2Proof.Machine

theorem portValue_eq_of_cross_mul {q q' : RatPort} (hq : q.den ≠ 0) (hq' : q'.den ≠ 0)
    (same : q.num * q'.den = q'.num * q.den) : portValue q = portValue q' := by
  rw [portValue, portValue, div_eq_div_iff (Nat.cast_ne_zero.mpr hq) (Nat.cast_ne_zero.mpr hq')]
  exact_mod_cast same

section portValue
variable {q q' : RatPort} (hq : q.den ≠ 0) (hq' : q'.den ≠ 0) (value : portValue q = portValue q') (cfg : Params)
include hq hq' value

theorem colorResponse_congr_red (p r : RatPort) : colorResponse cfg q p r = colorResponse cfg q' p r := by
  simp only [colorResponse, hq, hq', value]

theorem colorResponse_congr_green (p r : RatPort) : colorResponse cfg p q r = colorResponse cfg p q' r := by
  simp only [colorResponse, hq, hq', value]

theorem colorResponse_congr_blue (p r : RatPort) : colorResponse cfg p r q = colorResponse cfg p r q' := by
  simp only [colorResponse, hq, hq', value]

theorem turnResponse_congr (deg : Int) : turnResponse cfg deg q = turnResponse cfg deg q' := by
  simp only [turnResponse, hq, hq', value]

theorem moveResponse_congr (dist : Int) (noTurn : Bool) :
    moveResponse cfg dist q noTurn = moveResponse cfg dist q' noTurn := by
  simp only [moveResponse, hq, hq', value]

theorem packMoveResponse_congr (dist deg : Int) (mode : Nat) :
    packMoveResponse cfg dist deg q mode = packMoveResponse cfg dist deg q' mode := by
  simp only [packMoveResponse, hq, hq', value]

end portValue

/-- Settles O21: each response reads a port only by whether its denominator is 0, and by its value. -/
theorem onlyTheValueOfARationalPortMatters : Obligations.OnlyTheValueOfARationalPortMatters := by
  intro q q' hq hq' same s a b p r flag mode
  have value := portValue_eq_of_cross_mul hq hq' same
  simp only [exec_eq_accept, responseOf]
  rw [colorResponse_congr_red hq hq' value, colorResponse_congr_green hq hq' value,
    colorResponse_congr_blue hq hq' value, turnResponse_congr hq hq' value, moveResponse_congr hq hq' value,
    packMoveResponse_congr hq hq' value]
  exact ⟨rfl, rfl, rfl, rfl, rfl, rfl⟩

end Sys2Proof.Machine
end

section
/-! The folded speed in the drive-class payloads (30_encoding.md rule R75, 42_motion_speed.md rules R130 to R136). -/

namespace Sys2Proof.Machine

theorem foldedSpeed_nonneg (speed : Int) : 0 ≤ foldedSpeed speed := by
  simp only [foldedSpeed]
  split <;> omega

theorem foldedSpeed_le (speed : Int) : foldedSpeed speed ≤ 0x800 := by
  simp only [foldedSpeed]
  split <;> omega

/-- The model's clamp and fold are those of the rules. -/
theorem foldSpeed_clampSpeed (speed : Int) : foldSpeed (clampSpeed speed) = foldedSpeed speed := rfl

/-- A mask of ones from bit `k` on keeps the bits from there on, as many as it has ones. -/
theorem and_ones_mul_two_pow (n w k : Nat) : n &&& (2 ^ w - 1) * 2 ^ k = n / 2 ^ k % 2 ^ w * 2 ^ k := by
  refine Nat.eq_of_testBit_eq fun i => ?_
  simp only [Nat.testBit_and, Nat.testBit_mul_two_pow, Nat.testBit_two_pow_sub_one, Nat.testBit_mod_two_pow,
    Nat.testBit_div_two_pow]
  by_cases hi : k ≤ i
  · simp [hi, Nat.sub_add_cancel hi, Bool.and_comm]
  · simp [hi]

/-- `f & 0xFF`, the low byte. -/
theorem and_0xFF (n : Nat) : n &&& 0xFF = n % 256 := Nat.and_two_pow_sub_one_eq_mod n 8

/-- `(f & 0x0F00) >> 8`, bits 11:8 in their place of a byte of their own. -/
theorem and_0x0F00_shiftRight (n : Nat) : (n &&& 0x0F00) >>> 8 = n / 256 % 16 := by
  have masked : n &&& 0x0F00 = n / 2 ^ 8 % 2 ^ 4 * 2 ^ 8 := and_ones_mul_two_pow n 4 8
  rw [masked, Nat.shiftRight_eq_div_pow]
  omega

/-- `(f & 0xFF00) >> 5`, bits 15:8 above three bits of 0. -/
theorem and_0xFF00_shiftRight (n : Nat) : (n &&& 0xFF00) >>> 5 = n / 256 % 256 * 8 := by
  have masked : n &&& 0xFF00 = n / 2 ^ 8 % 2 ^ 8 * 2 ^ 8 := and_ones_mul_two_pow n 8 8
  rw [masked, Nat.shiftRight_eq_div_pow]
  omega

/-- Masking the folded speed works on it as it is: it fits in 16 bits. -/
theorem andMask_foldedSpeed (speed : Int) (m : BitVec 16) :
    andMask (foldedSpeed speed) m = (foldedSpeed speed).toNat &&& m.toNat := by
  have low := foldedSpeed_nonneg speed
  have high := foldedSpeed_le speed
  rw [andMask_eq, Int.emod_eq_of_lt low (by omega)]

/-- DRIVE puts the low byte of the folded speed first and the bits above it last. -/
theorem driveResponse_eq (speed : Int) :
    driveResponse speed =
      emit .drive [(foldedSpeed speed).toNat % 256, 0, (foldedSpeed speed).toNat / 256 % 16] := by
  simp only [driveResponse, foldSpeed_clampSpeed, andMask_foldedSpeed]
  rw [← and_0xFF, ← and_0x0F00_shiftRight]
  rfl

/-- SPIN puts the low byte of the folded speed second and the bits above it last, from bit 3 on. -/
theorem spinResponse_eq (speed : Int) :
    spinResponse speed =
      emit .drive [0, (foldedSpeed speed).toNat % 256, (foldedSpeed speed).toNat / 256 % 256 * 8] := by
  simp only [spinResponse, foldSpeed_clampSpeed, andMask_foldedSpeed]
  rw [← and_0xFF, ← and_0xFF00_shiftRight]
  rfl

/-- The fields of the two bytes in which DRIVE carries a number up to 0x800. -/
theorem drive_bytes_carry {n : Nat} (le : n ≤ 0x800) :
    (BitVec.ofNat 8 (n / 256 % 16)).extractLsb' 4 4 = 0#4 ∧
      (BitVec.ofNat 8 (n % 256)).toNat + 256 * ((BitVec.ofNat 8 (n / 256 % 16)).extractLsb' 0 4).toNat = n := by
  rw [← BitVec.toNat_inj]
  simp only [BitVec.extractLsb'_toNat, BitVec.toNat_ofNat, Nat.shiftRight_eq_div_pow]
  omega

/-- The fields of the two bytes in which SPIN carries a number up to 0x800. -/
theorem spin_bytes_carry {n : Nat} (le : n ≤ 0x800) :
    (BitVec.ofNat 8 (n / 256 % 256 * 8)).extractLsb' 0 3 = 0#3 ∧
      (BitVec.ofNat 8 (n / 256 % 256 * 8)).toNat ≤ 0x40 ∧
      (BitVec.ofNat 8 (n % 256)).toNat + 256 * ((BitVec.ofNat 8 (n / 256 % 256 * 8)).extractLsb' 3 5).toNat = n := by
  rw [← BitVec.toNat_inj]
  simp only [BitVec.extractLsb'_toNat, BitVec.toNat_ofNat, Nat.shiftRight_eq_div_pow]
  omega

/-- Settles O10: the folded speed is a number up to 0x800, split between two bytes of the payload. -/
theorem driveClassPayloadCarriesTheFoldedSpeed : Obligations.DriveClassPayloadCarriesTheFoldedSpeed := by
  have toNat_le (speed : Int) : (foldedSpeed speed).toNat ≤ 0x800 := Int.toNat_le.mpr (foldedSpeed_le speed)
  have cast_toNat (speed : Int) : ((foldedSpeed speed).toNat : Int) = foldedSpeed speed :=
    Int.toNat_of_nonneg (foldedSpeed_nonneg speed)
  refine ⟨fun speed => ⟨foldedSpeed_nonneg speed, foldedSpeed_le speed⟩, fun s => ?_, fun speed s => ?_,
    fun speed s => ?_⟩
  · exact ⟨stopResponse, exec_eq_accept .stop s, rfl, rfl, rfl⟩
  · obtain ⟨high, carried⟩ := drive_bytes_carry (toNat_le speed)
    refine ⟨_, exec_eq_accept (.drive speed) s, ?_⟩
    rw [responseOf, driveResponse_eq]
    exact ⟨rfl, high, (congrArg Nat.cast carried).trans (cast_toNat speed)⟩
  · obtain ⟨low, bound, carried⟩ := spin_bytes_carry (toNat_le speed)
    refine ⟨_, exec_eq_accept (.spin speed) s, ?_⟩
    rw [responseOf, spinResponse_eq]
    exact ⟨rfl, low, bound, (congrArg Nat.cast carried).trans (cast_toNat speed)⟩

end Sys2Proof.Machine
end

section
/-! The scalar encoders: the bytes inside each domain, the fault outside it (40_scalar.md). -/

namespace Sys2Proof

open Machine

/-- A request with the control word of an operation decodes to it, with the operands its fields hold. -/
theorem decode_of_selectsOpsel {req : Request} {i : Instr} (selects : SelectsOpsel req (opselOf i))
    (carries : req.Carries i) : decode req = .ok i := by
  have high := opselOf_le i
  obtain ⟨reserved, opsel⟩ := (selectsOpsel_iff req (by omega)).mp selects
  exact (decode_eq_ok_iff req i).mpr ⟨reserved, opsel, carries⟩

end Sys2Proof

namespace Sys2Proof.Machine

theorem oneByteResponse_of_mem {v : Int} (low : 0 ≤ v) (high : v ≤ 255) :
    EmitsPayload (oneByteResponse v) 0 [v.toNat] := by
  rw [oneByteResponse, if_neg (by omega)]
  refine emit_spec .fragment _ (Nat.le_of_ble_eq_true rfl) fun b mem => ?_
  obtain rfl := List.mem_singleton.mp mem
  omega

theorem oneByteResponse_of_not_mem {v : Int} (out : v < 0 ∨ 255 < v) : RaisesCode (oneByteResponse v) 1 := by
  rw [oneByteResponse, if_pos out]
  exact raise_spec .rangeError

/-- `(v & 0xFF00) >> 8`, bits 15:8 as a byte of their own. -/
theorem and_0xFF00_shiftRight_eight (n : Nat) : (n &&& 0xFF00) >>> 8 = n / 256 % 256 := by
  have masked : n &&& 0xFF00 = n / 2 ^ 8 % 2 ^ 8 * 2 ^ 8 := and_ones_mul_two_pow n 8 8
  rw [masked, Nat.shiftRight_eq_div_pow]
  omega

/-- Masking a number of 16 bits works on it as it is. -/
theorem andMask_of_mem {v : Int} (low : 0 ≤ v) (high : v ≤ 65535) (m : BitVec 16) :
    andMask v m = v.toNat &&& m.toNat := by
  rw [andMask_eq, Int.emod_eq_of_lt low (by omega)]

/-- The two masks split the number into its bytes, of which a number of 16 bits has no more. -/
theorem twoByteResponse_of_mem {v : Int} (low : 0 ≤ v) (high : v ≤ 65535) :
    EmitsPayload (twoByteResponse v) 0 [v.toNat / 256, v.toNat % 256] := by
  have first : andMask v 0xFF00 >>> 8 = v.toNat / 256 := by
    rw [andMask_of_mem low high]
    exact (and_0xFF00_shiftRight_eight _).trans (by omega)
  have second : andMask v 0x00FF = v.toNat % 256 := by
    rw [andMask_of_mem low high]
    exact and_0xFF _
  rw [twoByteResponse, if_neg (by omega), first, second]
  refine emit_spec .fragment _ (Nat.le_of_ble_eq_true rfl) fun b mem => ?_
  obtain rfl | rfl := List.mem_pair.mp mem <;> omega

theorem twoByteResponse_of_not_mem {v : Int} (out : v < 0 ∨ 65535 < v) : RaisesCode (twoByteResponse v) 1 := by
  rw [twoByteResponse, if_pos out]
  exact raise_spec .rangeError

/-- `n XOR 0xFF` is the complement of a byte. -/
theorem xor_0xFF {n : Nat} (byte : n < 256) : n ^^^ 0xFF = 255 - n := by
  have complement := BitVec.toNat_not (x := BitVec.ofNat 8 n)
  rw [← BitVec.xor_allOnes, BitVec.toNat_xor, BitVec.toNat_ofNat, Nat.mod_eq_of_lt byte] at complement
  exact complement

/-- Complement and increment is negation modulo 256 (40_scalar.md rule R103). -/
theorem angleByte_eq_emod {a : Int} (low : -127 ≤ a) : angleByte a = (a % 256).toNat := by
  unfold angleByte
  split
  next negative =>
    rw [xor_0xFF (by omega)]
    omega
  next =>
    rw [andMask_eq]
    exact (and_0xFF _).trans (by omega)

theorem signedAngleByteResponse_of_mem {a : Int} (low : -127 ≤ a) (high : a ≤ 127) :
    EmitsPayload (signedAngleByteResponse a) 0 [(a % 256).toNat] := by
  rw [signedAngleByteResponse, if_neg (by omega), angleByte_eq_emod low]
  refine emit_spec .fragment _ (Nat.le_of_ble_eq_true rfl) fun b mem => ?_
  obtain rfl := List.mem_singleton.mp mem
  omega

theorem signedAngleByteResponse_of_not_mem {a : Int} (out : a < -127 ∨ 127 < a) :
    RaisesCode (signedAngleByteResponse a) 1 := by
  rw [signedAngleByteResponse, if_pos out]
  exact raise_spec .rangeError

/-- Settles O1: the operand is its own byte. -/
theorem oneByteEmitsItsValueOrRangeError : Obligations.OneByteEmitsItsValueOrRangeError :=
  ⟨fun _ selects => decode_of_selectsOpsel selects rfl,
    fun v s low high => ⟨_, exec_eq_accept (.oneByte v) s, oneByteResponse_of_mem low high⟩,
    fun v s out => ⟨_, exec_eq_accept (.oneByte v) s, oneByteResponse_of_not_mem out⟩⟩

/-- Settles O2: the masks are the quotient and the remainder by 256. -/
theorem twoByteEmitsBigEndianOrRangeError : Obligations.TwoByteEmitsBigEndianOrRangeError :=
  ⟨fun _ selects => decode_of_selectsOpsel selects rfl,
    fun v s low high => ⟨_, exec_eq_accept (.twoByte v) s, twoByteResponse_of_mem low high⟩,
    fun v s out => ⟨_, exec_eq_accept (.twoByte v) s, twoByteResponse_of_not_mem out⟩⟩

/-- Settles O3: the byte of either sign is the angle modulo 256. -/
theorem signedAngleByteEmitsTwosComplementOrRangeError :
    Obligations.SignedAngleByteEmitsTwosComplementOrRangeError :=
  ⟨fun _ selects => decode_of_selectsOpsel selects rfl,
    fun a s low high => ⟨_, exec_eq_accept (.signedAngleByte a) s, signedAngleByteResponse_of_mem low high⟩,
    fun a s out => ⟨_, exec_eq_accept (.signedAngleByte a) s, signedAngleByteResponse_of_not_mem out⟩⟩

/-- Settles O4: the bytes of O2 and O3, read back with their weights. -/
theorem scalarPayloadsReadBackTheirOperands : Obligations.ScalarPayloadsReadBackTheirOperands := by
  refine ⟨fun v s low high => ⟨_, exec_eq_accept (.twoByte v) s, ?_⟩,
    fun a s low high => ⟨_, exec_eq_accept (.signedAngleByte a) s, ?_⟩⟩
  · obtain ⟨-, -, -, -, bytes⟩ := twoByteResponse_of_mem low high
    have first : (twoByteResponse v).b0.toNat = v.toNat / 256 := bytes 0 (by decide)
    have second : (twoByteResponse v).b1.toNat = v.toNat % 256 := bytes 1 (by decide)
    rw [responseOf, first, second]
    omega
  · obtain ⟨-, -, -, -, bytes⟩ := signedAngleByteResponse_of_mem low high
    have byte : (signedAngleByteResponse a).b0.toNat = (a % 256).toNat := bytes 0 (by decide)
    rw [responseOf, BitVec.toInt_eq_toNat_cond, byte]
    split <;> omega

end Sys2Proof.Machine
end

section
/-! The colour encoder: each channel rounded and clamped to a byte of its own (41_color.md rules R121 and R122). -/

namespace Sys2Proof.Machine

/-- The clamp keeps a channel within a byte, so that `emit` cuts nothing off. -/
theorem channelByte_lt (mode : Rounding) (channel : ℚ) : channelByte mode channel < 256 := by
  rw [channelByte, clamp_eq]
  omega

/-- The model's rounding is one the rule allows. -/
theorem roundsTo_roundRat (mode : Rounding) (x : ℚ) : RoundsTo mode x (roundRat mode x) :=
  (roundingIsNearestWithTheNamedTie mode x _).mpr rfl

section colorResponse
variable (cfg : Params) {q0 q1 q2 : RatPort}

theorem colorResponse_of_den_eq_zero (zero : q0.den = 0 ∨ q1.den = 0 ∨ q2.den = 0) :
    colorResponse cfg q0 q1 q2 = raise .badOperand :=
  if_pos zero

theorem colorResponse_of_den_ne_zero (h0 : q0.den ≠ 0) (h1 : q1.den ≠ 0) (h2 : q2.den ≠ 0) :
    colorResponse cfg q0 q1 q2 =
      emit .fragment [channelByte cfg.rounding (portValue q0), channelByte cfg.rounding (portValue q1),
        channelByte cfg.rounding (portValue q2)] :=
  if_neg (not_or.mpr ⟨h0, not_or.mpr ⟨h1, h2⟩⟩)

theorem colorResponse_emitsPayload (h0 : q0.den ≠ 0) (h1 : q1.den ≠ 0) (h2 : q2.den ≠ 0) :
    EmitsPayload (colorResponse cfg q0 q1 q2) 0
      [channelByte cfg.rounding (portValue q0), channelByte cfg.rounding (portValue q1),
        channelByte cfg.rounding (portValue q2)] := by
  rw [colorResponse_of_den_ne_zero cfg h0 h1 h2]
  refine emit_spec .fragment _ (Nat.le_of_ble_eq_true rfl) fun b mem => ?_
  simp only [List.mem_cons, List.not_mem_nil, or_false] at mem
  obtain rfl | rfl | rfl := mem <;> exact channelByte_lt ..

/-- The payload byte of the channel on a port. -/
def portByte (mode : Rounding) (q : RatPort) : Byte := BitVec.ofNat 8 (channelByte mode (portValue q))

theorem colorResponse_bytes (h0 : q0.den ≠ 0) (h1 : q1.den ≠ 0) (h2 : q2.den ≠ 0) :
    (colorResponse cfg q0 q1 q2).b0 = portByte cfg.rounding q0 ∧
      (colorResponse cfg q0 q1 q2).b1 = portByte cfg.rounding q1 ∧
      (colorResponse cfg q0 q1 q2).b2 = portByte cfg.rounding q2 := by
  rw [colorResponse_of_den_ne_zero cfg h0 h1 h2]
  exact ⟨rfl, rfl, rfl⟩

end colorResponse

/-- Settles O5: the integers that the bytes clamp are the model's roundings of the channels. -/
theorem colorEmitsClampedChannelsOrBadOperand : Obligations.ColorEmitsClampedChannelsOrBadOperand := by
  refine ⟨fun req selects => decode_of_selectsOpsel selects ⟨rfl, rfl, rfl⟩, fun q0 q1 q2 s h0 h1 h2 => ?_,
    fun q0 q1 q2 s zero => ?_⟩
  · exact ⟨_, exec_eq_accept (.color q0 q1 q2) s, _, _, _, roundsTo_roundRat .., roundsTo_roundRat ..,
      roundsTo_roundRat .., colorResponse_emitsPayload s.cfg h0 h1 h2⟩
  · refine ⟨_, exec_eq_accept (.color q0 q1 q2) s, ?_⟩
    rw [responseOf, colorResponse_of_den_eq_zero s.cfg zero]
    exact raise_spec .badOperand

/-- Settles O6: each byte of COLOR is `portByte` of its own port. -/
theorem colorChannelsAreComputedAlikeAndApart : Obligations.ColorChannelsAreComputedAlikeAndApart :=
  ⟨portByte, fun q0 q1 q2 s h0 h1 h2 =>
    ⟨_, exec_eq_accept (.color q0 q1 q2) s, colorResponse_bytes s.cfg h0 h1 h2⟩⟩

end Sys2Proof.Machine
end

section
/-! The speed operations: what STOP, DRIVE and SPIN emit, and which speeds share a payload (42_motion_speed.md). -/

namespace Sys2Proof.Machine

/-- Three bytes of the drive class reach the response uncut. -/
theorem emit_drive_spec {x y z : Nat} (hx : x < 256) (hy : y < 256) (hz : z < 256) :
    EmitsPayload (emit .drive [x, y, z]) 1 [x, y, z] := by
  refine emit_spec .drive _ (Nat.le_of_ble_eq_true rfl) fun b mem => ?_
  simp only [List.mem_cons, List.not_mem_nil, or_false] at mem
  obtain rfl | rfl | rfl := mem <;> assumption

/-- From 0 up, a clamped speed is its own fold. -/
theorem foldedSpeed_of_nonneg {speed : Int} (low : 0 ≤ speed) (high : speed ≤ 2048) : foldedSpeed speed = speed := by
  simp only [foldedSpeed]
  omega

/-- Below 0, the fold adds 2048 to a clamped speed. -/
theorem foldedSpeed_of_neg {speed : Int} (low : -2048 ≤ speed) (high : speed < 0) :
    foldedSpeed speed = speed + 2048 := by
  simp only [foldedSpeed]
  omega

/-- Speeds of one sign keep apart; a negative speed falls on the one 2048 above it, which is below 2048. -/
theorem foldedSpeed_eq_iff {a b : Int} (lowA : -2048 ≤ a) (highA : a ≤ 2048) (lowB : -2048 ≤ b) (highB : b ≤ 2048) :
    foldedSpeed a = foldedSpeed b ↔ a = b ∨ (a = b + 2048 ∧ a < 2048) ∨ (b = a + 2048 ∧ b < 2048) := by
  rcases lt_or_ge a 0 with negA | nonnegA <;> rcases lt_or_ge b 0 with negB | nonnegB
  · rw [foldedSpeed_of_neg lowA negA, foldedSpeed_of_neg lowB negB]
    omega
  · rw [foldedSpeed_of_neg lowA negA, foldedSpeed_of_nonneg nonnegB highB]
    omega
  · rw [foldedSpeed_of_nonneg nonnegA highA, foldedSpeed_of_neg lowB negB]
    omega
  · rw [foldedSpeed_of_nonneg nonnegA highA, foldedSpeed_of_nonneg nonnegB highB]
    omega

theorem driveResponse_emitsPayload (speed : Int) :
    EmitsPayload (driveResponse speed) 1
      [(foldedSpeed speed).toNat &&& 0xFF, 0, ((foldedSpeed speed).toNat &&& 0x0F00) >>> 8] := by
  rw [driveResponse_eq, and_0xFF, and_0x0F00_shiftRight]
  exact emit_drive_spec (by omega) (by omega) (by omega)

/-- The shift by 5 leaves no more than a byte, since the folded speed is at most 0x800. -/
theorem spinResponse_emitsPayload (speed : Int) :
    EmitsPayload (spinResponse speed) 1
      [0, (foldedSpeed speed).toNat &&& 0xFF, ((foldedSpeed speed).toNat &&& 0xFF00) >>> 5] := by
  have high := foldedSpeed_le speed
  rw [spinResponse_eq, and_0xFF, and_0xFF00_shiftRight]
  exact emit_drive_spec (by omega) (by omega) (by omega)

/-- A speed that folds to 0 drives as STOP does. -/
theorem driveResponse_eq_stopResponse {speed : Int} (zero : foldedSpeed speed = 0) :
    driveResponse speed = stopResponse := by
  rw [driveResponse_eq, zero]
  rfl

/-- Settles O7: 0 and -2048 are the clamped speeds that fold to 0. -/
theorem stopEmitsThreeZeroBytes : Obligations.StopEmitsThreeZeroBytes := by
  refine ⟨fun req selects => decode_of_selectsOpsel selects trivial,
    fun s => ⟨_, exec_eq_accept .stop s, emit_drive_spec (by decide) (by decide) (by decide)⟩, fun s => ?_⟩
  have zero : driveResponse 0 = stopResponse :=
    driveResponse_eq_stopResponse (foldedSpeed_of_nonneg (by decide) (by decide))
  have lowest : driveResponse (-2048) = stopResponse :=
    driveResponse_eq_stopResponse (foldedSpeed_of_neg (by decide) (by decide))
  simp only [exec_eq_accept, responseOf, zero, lowest, and_self]

/-- Settles O8: the masks of the rule are the bytes of the folded speed. -/
theorem driveEmitsClampedFoldedSpeed : Obligations.DriveEmitsClampedFoldedSpeed :=
  ⟨fun _ selects => decode_of_selectsOpsel selects rfl,
    fun speed s => ⟨_, exec_eq_accept (.drive speed) s, driveResponse_emitsPayload speed⟩⟩

/-- Settles O9: as O8, with the high byte shifted to bit 3. -/
theorem spinEmitsClampedFoldedSpeedShiftedByFive : Obligations.SpinEmitsClampedFoldedSpeedShiftedByFive :=
  ⟨fun _ selects => decode_of_selectsOpsel selects rfl,
    fun speed s => ⟨_, exec_eq_accept (.spin speed) s, spinResponse_emitsPayload speed⟩⟩

/-- Two speeds have one response exactly where they have one fold. -/
def SharesExactlyByFold (response : Int → Response) : Prop :=
  ∀ a b, response a = response b ↔ foldedSpeed a = foldedSpeed b

/-- The folded speed read back from the fields of a DRIVE payload (30_encoding.md rule R75). -/
def driveFold (r : Response) : Nat := r.b0.toNat + 256 * (r.b2.extractLsb' 0 4).toNat

/-- The folded speed read back from the fields of a SPIN payload (30_encoding.md rule R75). -/
def spinFold (r : Response) : Nat := r.b1.toNat + 256 * (r.b2.extractLsb' 3 5).toNat

theorem driveFold_driveResponse (speed : Int) : driveFold (driveResponse speed) = (foldedSpeed speed).toNat := by
  rw [driveResponse_eq]
  exact (drive_bytes_carry (Int.toNat_le.mpr (foldedSpeed_le speed))).2

theorem spinFold_spinResponse (speed : Int) : spinFold (spinResponse speed) = (foldedSpeed speed).toNat := by
  rw [spinResponse_eq]
  exact (spin_bytes_carry (Int.toNat_le.mpr (foldedSpeed_le speed))).2.2

/-- A response that the fold determines, and from which the fold can be read back, is shared exactly by the fold. -/
theorem sharesExactlyByFold_of_read {response : Int → Response} {read : Response → Nat}
    (reads : ∀ speed, read (response speed) = (foldedSpeed speed).toNat)
    (determined : ∀ a b, foldedSpeed a = foldedSpeed b → response a = response b) : SharesExactlyByFold response := by
  refine fun a b => ⟨fun same => ?_, determined a b⟩
  have folds : (foldedSpeed a).toNat = (foldedSpeed b).toNat := by rw [← reads, same, reads]
  have lowA := foldedSpeed_nonneg a
  have lowB := foldedSpeed_nonneg b
  omega

theorem driveResponse_sharesExactlyByFold : SharesExactlyByFold driveResponse :=
  sharesExactlyByFold_of_read driveFold_driveResponse fun a b same => by
    rw [driveResponse_eq, same, ← driveResponse_eq]

theorem spinResponse_sharesExactlyByFold : SharesExactlyByFold spinResponse :=
  sharesExactlyByFold_of_read spinFold_spinResponse fun a b same => by
    rw [spinResponse_eq, same, ← spinResponse_eq]

/-- The folds stand for all clamped speeds: they are themselves the clamped speeds from 0 up. -/
theorem SharesExactlyByFold.image_eq {response : Int → Response} (shares : SharesExactlyByFold response) :
    (Finset.Icc (-2048 : Int) 2048).image response = (Finset.Icc (0 : Int) 2048).image response := by
  refine Finset.Subset.antisymm (Finset.image_subset_iff.mpr fun speed _ => ?_)
    (Finset.image_subset_image (Finset.Icc_subset_Icc_left (by decide)))
  have low := foldedSpeed_nonneg speed
  have high := foldedSpeed_le speed
  exact Finset.mem_image.mpr ⟨foldedSpeed speed, Finset.mem_Icc.mpr ⟨low, high⟩,
    (shares _ _).mpr (foldedSpeed_of_nonneg low high)⟩

/-- No two speeds from 0 up have one response, so there are as many responses as there are of them. -/
theorem SharesExactlyByFold.card_image {response : Int → Response} (shares : SharesExactlyByFold response) :
    ((Finset.Icc (-2048 : Int) 2048).image response).card = 2049 := by
  have apart : Set.InjOn response (Finset.Icc (0 : Int) 2048) := by
    intro a memA b memB same
    obtain ⟨lowA, highA⟩ := Finset.mem_Icc.mp memA
    obtain ⟨lowB, highB⟩ := Finset.mem_Icc.mp memB
    have folds := (shares a b).mp same
    rwa [foldedSpeed_of_nonneg lowA highA, foldedSpeed_of_nonneg lowB highB] at folds
  rw [shares.image_eq, Finset.card_image_of_injOn apart, Int.card_Icc]
  rfl

/-- Settles O11: DRIVE and SPIN both carry exactly the fold, whose values are 0 to 2048. -/
theorem speedPayloadsCollideExactlyByTheFold : Obligations.SpeedPayloadsCollideExactlyByTheFold := by
  refine ⟨fun a b lowA highA lowB highB => ?_, driveResponse_sharesExactlyByFold.card_image,
    spinResponse_sharesExactlyByFold.card_image⟩
  rw [driveResponse_sharesExactlyByFold, spinResponse_sharesExactlyByFold, foldedSpeed_eq_iff lowA highA lowB highB]
  exact ⟨Iff.rfl, Iff.rfl⟩

end Sys2Proof.Machine
end

section
/-! The angle in centiradians is the integer nearest to the exact one (43_motion_pack.md rule R151). -/

namespace Sys2Proof.Machine

/-- A fraction strictly between two Farey neighbours has a denominator at least as great as the sum of theirs. -/
theorem add_den_le_of_between {a b a' b' n d : ℤ} (neighbours : a' * b - a * b' = 1) (hb : 0 < b) (hb' : 0 < b')
    (below : a * d < n * b) (above : n * b' < a' * d) : b + b' ≤ d := by
  have weighted : d = b' * (n * b - a * d) + b * (a' * d - n * b') := by linear_combination -d * neighbours
  have := mul_le_mul_of_nonneg_left (show 1 ≤ n * b - a * d by omega) hb'.le
  have := mul_le_mul_of_nonneg_left (show 1 ≤ a' * d - n * b' by omega) hb.le
  linarith

/-- The number agrees with π in the first 20 decimals. -/
def NearPi (p : ℝ) : Prop := 3.14159265358979323846 < p ∧ p < 3.14159265358979323847

theorem nearPi_pi : NearPi Real.pi := ⟨Real.pi_gt_d20, Real.pi_lt_d20⟩

theorem nearPi_piRational : NearPi (piRational : ℝ) := by
  constructor <;> norm_num [piRational]

section nearPi
variable {d : ℤ} (pos : 0 < d) (le : d ≤ 2147483648)
include pos le

/-- An integer lies on one side of `d × 10p / 9` for all such `p` alike: `10p / 9` lies between the Farey
neighbours 2978859512/853380389 and 7228012477/2070673046, whose denominators add up to more than `2^31`. -/
theorem lt_or_gt_of_nearPi (n : ℤ) :
    (∀ p, NearPi p → (n : ℝ) < d * 10 * p / 9) ∨ (∀ p, NearPi p → d * 10 * p / 9 < (n : ℝ)) := by
  have posR : (0 : ℝ) < d := Int.cast_pos.mpr pos
  have outside : n * 853380389 ≤ 2978859512 * d ∨ 7228012477 * d ≤ n * 2070673046 := by
    by_contra! between
    obtain ⟨below, above⟩ := between
    have := add_den_le_of_between (by norm_num) (by norm_num) (by norm_num) below above
    omega
  refine outside.imp (fun below p near => ?_) (fun above p near => ?_)
  · have belowR : (n : ℝ) * 853380389 ≤ 2978859512 * d := by exact_mod_cast below
    linarith [mul_lt_mul_of_pos_left near.1 posR]
  · have aboveR : (7228012477 : ℝ) * d ≤ n * 2070673046 := by exact_mod_cast above
    linarith [mul_lt_mul_of_pos_left near.2 posR]

/-- An integer within half a unit of the angle by one such `p` is so by every other, and never at half a unit: twice the
angle stays on its side of the odd integers around twice the integer. -/
theorem nearest_of_nearPi {p q : ℝ} (nearP : NearPi p) (nearQ : NearPi q) {c : ℤ}
    (close : |(c : ℝ) - d * 5 * p / 9| ≤ 1 / 2) : |(c : ℝ) - d * 5 * q / 9| < 1 / 2 := by
  obtain ⟨low, high⟩ := abs_le.mp close
  have lower : ((2 * c - 1 : ℤ) : ℝ) < d * 10 * q / 9 := by
    obtain below | above := lt_or_gt_of_nearPi pos le (2 * c - 1)
    · exact below q nearQ
    · have := above p nearP
      push_cast at this
      linarith
  have upper : d * 10 * q / 9 < ((2 * c + 1 : ℤ) : ℝ) := by
    obtain below | above := lt_or_gt_of_nearPi pos le (2 * c + 1)
    · have := below p nearP
      push_cast at this
      linarith
    · exact above q nearQ
  push_cast at lower upper
  rw [abs_lt]
  constructor <;> linarith

/-- For a positive number of degrees, the rational in place of π changes nothing. -/
theorem nearestCentiradians_centirad_of_pos : NearestCentiradians d (centirad d) := by
  have rounded : |(d : ℚ) * 5 * piRational / 9 - centirad d| ≤ 1 / 2 :=
    (roundsTo_roundRat .halfEven _).abs_sub_le_half
  rw [abs_sub_comm] at rounded
  have roundedR := Rat.cast_le (K := ℝ).mpr rounded
  push_cast at roundedR
  exact nearest_of_nearPi pos le nearPi_piRational nearPi_pi roundedR

end nearPi

/-- Rounding ties to even is odd: the mirror of the nearest integer, even where it was, is nearest to the mirror. -/
theorem roundRat_halfEven_neg (x : ℚ) : roundRat .halfEven (-x) = -roundRat .halfEven x := by
  have mirrored (n : ℤ) : |-x - ((-n : ℤ) : ℚ)| = |x - n| := by
    rw [← abs_neg]
    congr 1
    push_cast
    ring
  symm
  rw [← roundingIsNearestWithTheNamedTie]
  refine (roundsTo_roundRat .halfEven x).imp (fun near => ?_) fun ⟨tie, even⟩ => ⟨?_, ?_⟩
  · rwa [mirrored]
  · rwa [mirrored]
  · change _ % 2 = 0
    change _ % 2 = 0 at even
    omega

theorem centirad_neg (d : ℤ) : centirad (-d) = -centirad d := by
  rw [centirad, centirad, ← roundRat_halfEven_neg]
  congr 1
  push_cast
  ring

theorem centirad_zero : centirad 0 = 0 := by decide +kernel

theorem nearestCentiradians_neg_iff (d c : ℤ) : NearestCentiradians (-d) (-c) ↔ NearestCentiradians d c := by
  rw [NearestCentiradians, NearestCentiradians, ← abs_neg]
  congr! 2
  push_cast
  ring

theorem nearestCentiradians_centirad {d : ℤ} (low : -2147483648 ≤ d) (high : d ≤ 2147483647) :
    NearestCentiradians d (centirad d) := by
  rcases lt_trichotomy d 0 with neg | rfl | pos
  · rw [← nearestCentiradians_neg_iff, ← centirad_neg]
    exact nearestCentiradians_centirad_of_pos (by omega) (by omega)
  · rw [centirad_zero, NearestCentiradians]
    norm_num
  · exact nearestCentiradians_centirad_of_pos pos (by omega)

/-- One degree is more than 1.7 centiradians. -/
theorem NearestCentiradians.two_le {d c : ℤ} (nearest : NearestCentiradians d c) (pos : 0 < d) : 2 ≤ c := by
  obtain ⟨low, high⟩ := abs_lt.mp nearest
  have one_le : (1 : ℝ) ≤ d := by exact_mod_cast pos
  have pi_gt := Real.pi_gt_three
  have : (1 : ℝ) < c := by nlinarith
  exact_mod_cast this

theorem NearestCentiradians.le_neg_two {d c : ℤ} (nearest : NearestCentiradians d c) (neg : d < 0) : c ≤ -2 := by
  have := ((nearestCentiradians_neg_iff d c).mpr nearest).two_le (by omega)
  omega

/-- Settles O14: the nearest integer for positive degrees, and the mirror of it for negative ones. -/
theorem centiradiansAreNearestToTheExactAngle : Obligations.CentiradiansAreNearestToTheExactAngle := by
  refine ⟨fun d => nearestCentiradians_centirad, fun d nonzero low high => ⟨centirad_neg d, ?_⟩, centirad_zero⟩
  have nearest := nearestCentiradians_centirad low high
  rw [le_abs]
  rcases lt_or_gt_of_ne nonzero with neg | pos
  · have := nearest.le_neg_two neg
    omega
  · have := nearest.two_le pos
    omega

/-- An integer is nearest to the angle of one whole number of degrees alone, since a degree is more than one unit. -/
theorem NearestCentiradians.degrees_unique {d d' c : ℤ} (nearest : NearestCentiradians d c)
    (nearest' : NearestCentiradians d' c) : d = d' := by
  obtain ⟨low, high⟩ := abs_lt.mp nearest
  obtain ⟨low', high'⟩ := abs_lt.mp nearest'
  have pi_gt := Real.pi_gt_three
  have apart : |((d - d' : ℤ) : ℝ)| < 1 := by
    push_cast
    rw [abs_lt]
    constructor <;> nlinarith
  exact sub_eq_zero.mp (Int.abs_lt_one_iff.mp (by exact_mod_cast apart))

/-- No two integers are both less than half a unit from one angle. -/
theorem NearestCentiradians.unique {d c c' : ℤ} (nearest : NearestCentiradians d c)
    (nearest' : NearestCentiradians d c') : c = c' := by
  obtain ⟨low, high⟩ := abs_lt.mp nearest
  obtain ⟨low', high'⟩ := abs_lt.mp nearest'
  have apart : |((c - c' : ℤ) : ℝ)| < 1 := by
    push_cast
    rw [abs_lt]
    constructor <;> linarith
  exact sub_eq_zero.mp (Int.abs_lt_one_iff.mp (by exact_mod_cast apart))

/-- Up to a full turn, ten bits and a sign hold the angle. -/
theorem NearestCentiradians.abs_le_of_turn {d c : ℤ} (nearest : NearestCentiradians d c) (turn : |d| ≤ 360) :
    |c| ≤ 628 := by
  obtain ⟨low, high⟩ := abs_lt.mp nearest
  obtain ⟨lowDeg, highDeg⟩ := abs_le.mp turn
  have lowR : (-360 : ℝ) ≤ d := by exact_mod_cast lowDeg
  have highR : (d : ℝ) ≤ 360 := by exact_mod_cast highDeg
  have pi_lt := Real.pi_lt_d4
  have pi_pos := Real.pi_pos
  have below : (c : ℝ) < 629 := by nlinarith
  have above : (-629 : ℝ) < c := by nlinarith
  have below' : c < 629 := by exact_mod_cast below
  have above' : -629 < c := by exact_mod_cast above
  rw [abs_le]
  omega

end Sys2Proof.Machine
end

section
/-! The eight bytes of a move-class payload, and the arguments they hold (30_encoding.md rule R76). -/

namespace Sys2Proof.Machine

theorem andMask_0x00FF (x : Int) : andMask x 0x00FF = (x % 65536).toNat % 256 :=
  (andMask_eq x _).trans (and_0xFF _)

theorem andMask_0xFF00_shiftRight (x : Int) : andMask x 0xFF00 >>> 8 = (x % 65536).toNat / 256 := by
  rw [andMask_eq]
  exact (and_0xFF00_shiftRight_eight _).trans (by omega)

/-- `(x & 0x3F00) >> 8`, the high six bits of 14. -/
theorem andMask_0x3F00_shiftRight (x : Int) : andMask x 0x3F00 >>> 8 = (x % 65536).toNat / 256 % 64 := by
  have masked (n : Nat) : n &&& 0x3F00 = n / 2 ^ 8 % 2 ^ 6 * 2 ^ 8 := and_ones_mul_two_pow n 6 8
  rw [andMask_eq, show (0x3F00 : BitVec 16).toNat = 0x3F00 from rfl, masked, Nat.shiftRight_eq_div_pow]
  omega

/-- `(x & 0x0300) >> 2`, the high two bits of ten in the place above six others. -/
theorem andMask_0x0300_shiftRight (x : Int) : andMask x 0x0300 >>> 2 = (x % 65536).toNat / 256 % 4 * 64 := by
  have masked (n : Nat) : n &&& 0x0300 = n / 2 ^ 8 % 2 ^ 2 * 2 ^ 8 := and_ones_mul_two_pow n 2 8
  rw [andMask_eq, show (0x0300 : BitVec 16).toNat = 0x0300 from rfl, masked, Nat.shiftRight_eq_div_pow]
  omega

/-- The masks and shifts of the packer are the layout of the rule; in the sixth byte the two parts do not overlap, so
that joining their bits adds them. -/
theorem packBytes_eq (dist c tm : Int) (mode : Nat) : packBytes dist c tm mode = moveClassBytes dist c tm mode := by
  have joined {low : Nat} (high : Nat) (small : low < 64) : low ||| high * 64 = high * 64 + low := by
    rw [Nat.or_comm, mul_comm]
    exact (Nat.two_pow_add_eq_or_of_lt (i := 6) small high).symm
  simp only [packBytes, moveClassBytes, andMask_0x00FF, andMask_0xFF00_shiftRight, andMask_0x3F00_shiftRight,
    andMask_0x0300_shiftRight, joined _ (Nat.mod_lt _ (by decide : 64 > 0)), signByte, List.cons.injEq, and_true,
    true_and]
  omega

theorem moveClassBytes_lt (dist c tm : Int) {mode : Nat} (byte : mode < 256) :
    ∀ b, b ∈ moveClassBytes dist c tm mode → b < 256 := by
  intro b mem
  simp only [moveClassBytes, List.mem_cons, List.not_mem_nil, or_false] at mem
  split at mem <;> omega

/-- Only the residues the fields hold reach the payload. -/
theorem moveClassBytes_congr {dist dist' tm tm' : Int} (sameDist : dist % 16384 = dist' % 16384)
    (sameTm : tm % 65536 = tm' % 65536) (c : Int) (mode : Nat) :
    moveClassBytes dist c tm mode = moveClassBytes dist' c tm' mode := by
  simp only [moveClassBytes, sameDist, sameTm]

/-- What a payload of the move class tells of the numbers it was made of. -/
theorem moveClassBytes_inj {dist dist' c c' tm tm' : Int} {mode mode' : Nat}
    (same : moveClassBytes dist c tm mode = moveClassBytes dist' c' tm' mode') :
    dist % 16384 = dist' % 16384 ∧ c % 1024 = c' % 1024 ∧ tm % 65536 = tm' % 65536 ∧ (c < 0 ↔ c' < 0) ∧
      mode = mode' := by
  simp only [moveClassBytes, List.cons.injEq, and_true, true_and] at same
  obtain ⟨distLow, cLow, tmHigh, tmLow, sixth, sign, modes⟩ := same
  refine ⟨by omega, by omega, by omega, ?_, modes⟩
  split at sign <;> split at sign <;> omega

theorem emit_move_spec (dist c tm : Int) {mode : Nat} (byte : mode < 256) :
    EmitsPayload (emit .move (moveClassBytes dist c tm mode)) 2 (moveClassBytes dist c tm mode) :=
  emit_spec .move _ le_rfl (moveClassBytes_lt dist c tm byte)

/-- A response holds one payload of at most eight bytes. -/
theorem EmitsPayload.bytes_unique {r : Response} {cmd cmd' : Nat} {bytes bytes' : List Nat}
    (emits : EmitsPayload r cmd bytes) (emits' : EmitsPayload r cmd' bytes') (short : bytes.length ≤ 8) :
    bytes = bytes' := by
  obtain ⟨-, len, -, -, holds⟩ := emits
  obtain ⟨-, len', -, -, holds'⟩ := emits'
  refine List.ext_getElem (len.symm.trans len') fun i hi hi' => ?_
  have at_i := (holds i (by omega)).symm.trans (holds' i (by omega))
  rwa [List.getD_eq_getElem _ _ hi, List.getD_eq_getElem _ _ hi'] at at_i

end Sys2Proof.Machine
end

section
/-! The general packer: its checks in their order, and what it emits where none fails (43_motion_pack.md rules R154 to
R158). -/

namespace Sys2Proof.Machine

theorem rotation_check_iff (deg : Int) : (deg < -360 ∨ deg > 360) ↔ 360 < |deg| := by
  rw [lt_abs]
  omega

theorem not_rotation_check {deg : Int} (turn : |deg| ≤ 360) : ¬(deg < -360 ∨ deg > 360) := by
  rw [rotation_check_iff]
  exact turn.not_gt

/-- The arguments no strict check objects to (43_motion_pack.md rule R154). -/
structure FieldsFit (dist deg : Int) (secs : ℚ) (tm : Int) : Prop where
  deg_le : |deg| ≤ 360
  le_dist : -8192 ≤ dist
  dist_le : dist ≤ 8191
  secs_nonneg : 0 ≤ secs
  tm_le : tm ≤ 65535

section strictFault
variable {dist deg tm : Int} {secs : ℚ}

theorem strictFault_of_rotation (beyond : 360 < |deg|) :
    strictFault dist deg secs tm = some .rotationLimitExceeded :=
  if_pos ((rotation_check_iff deg).mpr beyond)

theorem strictFault_of_range (turn : |deg| ≤ 360) (out : dist < -8192 ∨ 8191 < dist ∨ secs < 0 ∨ 65535 < tm) :
    strictFault dist deg secs tm = some .rangeError := by
  rw [strictFault, if_neg (not_rotation_check turn)]
  split_ifs with distOut secsOut tmOut
  · rfl
  · rfl
  · rfl
  · rcases out with low | high | neg | late
    · exact absurd (.inl low) distOut
    · exact absurd (.inr high) distOut
    · exact absurd neg secsOut
    · exact absurd late tmOut

theorem FieldsFit.strictFault_eq (fit : FieldsFit dist deg secs tm) : strictFault dist deg secs tm = none := by
  obtain ⟨turn, low, high, nonneg, short⟩ := fit
  rw [strictFault, if_neg (not_rotation_check turn), if_neg (by omega), if_neg nonneg.not_gt,
    if_neg short.not_gt]

/-- The checks let through exactly what fits. -/
theorem strictFault_eq_none_iff : strictFault dist deg secs tm = none ↔ FieldsFit dist deg secs tm := by
  refine ⟨fun passes => ?_, FieldsFit.strictFault_eq⟩
  have turn : |deg| ≤ 360 := by
    by_contra! beyond
    rw [strictFault_of_rotation beyond] at passes
    cases passes
  have inRange : ¬(dist < -8192 ∨ 8191 < dist ∨ secs < 0 ∨ 65535 < tm) := fun out => by
    rw [strictFault_of_range turn out] at passes
    cases passes
  simp only [not_or, not_lt] at inRange
  obtain ⟨low, high, nonneg, short⟩ := inRange
  exact ⟨turn, low, high, nonneg, short⟩

end strictFault

/-- The duration of the statements is the model's. -/
theorem RoundsTo.eq_timeMeasure {mode : Rounding} {secs : ℚ} {tm : Int} (rounds : RoundsTo mode (secs * 1000) tm) :
    tm = timeMeasure mode secs :=
  (roundingIsNearestWithTheNamedTie mode _ tm).mp rounds

/-- A duration that is not negative does not round below 0. -/
theorem FieldsFit.tm_nonneg {dist deg tm : Int} {secs : ℚ} (fit : FieldsFit dist deg secs tm) {mode : Rounding}
    (rounds : RoundsTo mode (secs * 1000) tm) : 0 ≤ tm := by
  obtain ⟨_, above⟩ := abs_le.mp rounds.abs_sub_le_half
  have : (-1 : ℚ) < tm := by linarith [fit.secs_nonneg]
  have : -1 < tm := by exact_mod_cast this
  omega

/-- The angle of the statements is the model's, for degrees the request bus can carry. -/
theorem NearestCentiradians.eq_centirad {deg c : Int} (nearest : NearestCentiradians deg c)
    (fits : fitsS32 deg = true) : c = centirad deg := by
  obtain ⟨low, high⟩ := of_decide_eq_true fits
  exact nearest.unique (nearestCentiradians_centirad low high)

theorem fitsS32_of_abs_le {deg : Int} (turn : |deg| ≤ 360) : fitsS32 deg = true := by
  rw [abs_le] at turn
  exact decide_eq_true (by omega)

section pack
variable (cfg : Params) {dist deg : Int} (secs : ℚ) (mode : Nat)

theorem pack_of_conflict (moves : dist ≠ 0) (turns : deg ≠ 0) :
    pack cfg dist deg secs mode = raise .conflictingParameters :=
  if_pos ⟨moves, turns⟩

variable {cfg secs mode} (free : dist = 0 ∨ deg = 0)
include free

theorem pack_of_strictFault {e : Status} (strict : cfg.strictFields = true)
    (fault : strictFault dist deg secs (timeMeasure cfg.rounding secs) = some e) :
    pack cfg dist deg secs mode = raise e := by
  rw [pack, if_neg (by omega)]
  simp only [strict, fault, if_true]

theorem pack_of_fieldsFit
    (fit : cfg.strictFields = true → FieldsFit dist deg secs (timeMeasure cfg.rounding secs)) :
    pack cfg dist deg secs mode =
      emit .move (moveClassBytes dist (centirad deg) (timeMeasure cfg.rounding secs) mode) := by
  have passes : (if cfg.strictFields then strictFault dist deg secs (timeMeasure cfg.rounding secs) else none) = none :=
    ite_eq_right_iff.mpr fun strict => (fit strict).strictFault_eq
  rw [pack, if_neg (by omega)]
  simp only [passes, packBytes_eq]

theorem pack_raises_rotation (strict : cfg.strictFields = true) (beyond : 360 < |deg|) :
    RaisesCode (pack cfg dist deg secs mode) 3 := by
  rw [pack_of_strictFault free strict (strictFault_of_rotation beyond)]
  exact raise_spec .rotationLimitExceeded

theorem pack_raises_range {tm : Int} (strict : cfg.strictFields = true) (turn : |deg| ≤ 360)
    (rounds : RoundsTo cfg.rounding (secs * 1000) tm)
    (out : dist < -8192 ∨ 8191 < dist ∨ secs < 0 ∨ 65535 < tm) :
    RaisesCode (pack cfg dist deg secs mode) 1 := by
  obtain rfl := rounds.eq_timeMeasure
  rw [pack_of_strictFault free strict (strictFault_of_range turn out)]
  exact raise_spec .rangeError

theorem pack_emitsPayload {c tm : Int} (fits : fitsS32 deg = true) (byte : mode < 256)
    (rounds : RoundsTo cfg.rounding (secs * 1000) tm) (nearest : NearestCentiradians deg c)
    (fit : cfg.strictFields = true → FieldsFit dist deg secs tm) :
    EmitsPayload (pack cfg dist deg secs mode) 2 (moveClassBytes dist c tm mode) := by
  obtain rfl := rounds.eq_timeMeasure
  obtain rfl := nearest.eq_centirad fits
  rw [pack_of_fieldsFit free fit]
  exact emit_move_spec _ _ _ byte

end pack

/-- All the packer can do: a conflict, the fault of a strict check, or the eight bytes. -/
theorem pack_cases (cfg : Params) (dist deg : Int) (secs : ℚ) (mode : Nat) :
    (∃ e : Status, e.code ≠ 0 ∧ pack cfg dist deg secs mode = raise e) ∨
      ((cfg.strictFields = true → FieldsFit dist deg secs (timeMeasure cfg.rounding secs)) ∧
        pack cfg dist deg secs mode =
          emit .move (moveClassBytes dist (centirad deg) (timeMeasure cfg.rounding secs) mode)) := by
  by_cases conflict : dist ≠ 0 ∧ deg ≠ 0
  · exact .inl ⟨_, by decide, pack_of_conflict cfg secs mode conflict.1 conflict.2⟩
  have free : dist = 0 ∨ deg = 0 := by omega
  by_cases fit : cfg.strictFields = true → FieldsFit dist deg secs (timeMeasure cfg.rounding secs)
  · exact .inr ⟨fit, pack_of_fieldsFit free fit⟩
  obtain ⟨strict, misfit⟩ := Classical.not_imp.mp fit
  rw [← strictFault_eq_none_iff] at misfit
  obtain ⟨e, fault⟩ := Option.ne_none_iff_exists'.mp misfit
  refine .inl ⟨e, ?_, pack_of_strictFault free strict fault⟩
  obtain rfl | rfl := strictFault_cases fault <;> decide

section packMoveResponse
variable {cfg : Params} {q : RatPort}

theorem packMoveResponse_of_den_eq_zero (zero : q.den = 0) (dist deg : Int) (mode : Nat) :
    packMoveResponse cfg dist deg q mode = raise .badOperand :=
  if_pos zero

theorem packMoveResponse_of_den_ne_zero (nonzero : q.den ≠ 0) (dist deg : Int) (mode : Nat) :
    packMoveResponse cfg dist deg q mode = pack cfg dist deg (portValue q) mode :=
  if_neg nonzero

/-- PACK_MOVE succeeds only with arguments that fit, and then emits them. -/
theorem packMoveResponse_of_succeeds {dist deg tm : Int} {mode : Nat} (byte : mode < 256)
    (rounds : RoundsTo cfg.rounding (portValue q * 1000) tm)
    (succeeds : (packMoveResponse cfg dist deg q mode).status = 0) :
    (cfg.strictFields = true → FieldsFit dist deg (portValue q) tm) ∧
      EmitsPayload (packMoveResponse cfg dist deg q mode) 2 (moveClassBytes dist (centirad deg) tm mode) := by
  obtain rfl := rounds.eq_timeMeasure
  by_cases zero : q.den = 0
  · rw [packMoveResponse_of_den_eq_zero zero] at succeeds
    exact absurd succeeds (by decide)
  rw [packMoveResponse_of_den_ne_zero zero] at succeeds ⊢
  obtain ⟨e, faults, answer⟩ | ⟨fit, answer⟩ := pack_cases cfg dist deg (portValue q) mode
  · rw [answer] at succeeds
    exact absurd succeeds faults
  · rw [answer]
    exact ⟨fit, emit_move_spec _ _ _ byte⟩

theorem packMove_fits_of_wellFormed {dist deg : Int} {mode : Nat}
    (wf : (Instr.packMove dist deg q mode).wellFormed = true) : fitsS32 deg = true ∧ mode < 256 := by
  simp only [Instr.wellFormed, Bool.and_eq_true] at wf
  obtain ⟨⟨⟨-, fits⟩, -⟩, byte⟩ := wf
  exact ⟨fits, of_decide_eq_true byte⟩

end packMoveResponse

/-- Settles O15: each check of the packer in its order, then the eight bytes. -/
theorem packMoveFollowsTheGeneralPacker : Obligations.PackMoveFollowsTheGeneralPacker := by
  refine ⟨fun req selects => decode_of_selectsOpsel selects ⟨rfl, rfl, rfl, rfl⟩,
    fun dist deg q mode s zero => ?_, fun dist deg q mode s nonzero moves turns => ?_,
    fun dist deg q mode s nonzero free strict beyond => ?_,
    fun dist deg tm q mode s nonzero free strict turn rounds out => ?_,
    fun dist deg c tm q mode s nonzero free wf rounds nearest fit => ?_⟩
  all_goals refine ⟨_, exec_eq_accept (.packMove dist deg q mode) s, ?_⟩; rw [responseOf]
  · rw [packMoveResponse_of_den_eq_zero zero]
    exact raise_spec .badOperand
  all_goals rw [packMoveResponse_of_den_ne_zero nonzero]
  · rw [pack_of_conflict _ _ _ moves turns]
    exact raise_spec .conflictingParameters
  · exact pack_raises_rotation free strict beyond
  · exact pack_raises_range free strict turn rounds out
  · obtain ⟨fits, byte⟩ := packMove_fits_of_wellFormed wf
    refine pack_emitsPayload free fits byte rounds nearest fun strict => ?_
    obtain ⟨turn, low, high, nonneg, short⟩ := fit strict
    exact ⟨turn, low, high, nonneg, short⟩

/-- Settles O16: with no strict check left, both operations emit the payload of the same residues. -/
theorem literalPackerWrapsDistanceAndDuration : Obligations.LiteralPackerWrapsDistanceAndDuration := by
  intro dist dist' deg tm tm' q q' mode s literal nonzero nonzero' free free' rounds rounds' sameDist sameTm
  have unchecked {fit : Prop} (strict : s.cfg.strictFields = true) : fit :=
    absurd (literal.symm.trans strict) Bool.false_ne_true
  refine ⟨emit .move (moveClassBytes dist (centirad deg) tm mode), rfl, ?_, ?_⟩
  · rw [exec_eq_accept, responseOf, packMoveResponse_of_den_ne_zero nonzero, pack_of_fieldsFit free unchecked,
      rounds.eq_timeMeasure]
    rfl
  · rw [exec_eq_accept, responseOf, packMoveResponse_of_den_ne_zero nonzero', pack_of_fieldsFit free' unchecked,
      moveClassBytes_congr sameDist sameTm, rounds'.eq_timeMeasure]
    rfl

/-- Within a full turn, ten bits and a sign tell the whole degrees. -/
theorem degrees_unique_of_centirad_residue {deg deg' : Int} (turn : |deg| ≤ 360) (turn' : |deg'| ≤ 360)
    (residue : centirad deg % 1024 = centirad deg' % 1024) (sign : centirad deg < 0 ↔ centirad deg' < 0) :
    deg = deg' := by
  have nearest {d : Int} (turn : |d| ≤ 360) : NearestCentiradians d (centirad d) := by
    obtain ⟨low, high⟩ := of_decide_eq_true (fitsS32_of_abs_le turn)
    exact nearestCentiradians_centirad low high
  obtain ⟨low, high⟩ := abs_le.mp ((nearest turn).abs_le_of_turn turn)
  obtain ⟨low', high'⟩ := abs_le.mp ((nearest turn').abs_le_of_turn turn')
  have angles : centirad deg = centirad deg' := by omega
  exact (nearest turn).degrees_unique (angles ▸ nearest turn')

/-- Settles O17: the payload tells the residue of each argument and the sign of the angle, and the strict checks leave
one number with each residue. -/
theorem strictPackMovePayloadDeterminesItsArguments : Obligations.StrictPackMovePayloadDeterminesItsArguments := by
  intro cfg dist dist' deg deg' tm tm' q q' mode mode' strict wf wf' rounds rounds' succeeds same
  obtain ⟨-, byte⟩ := packMove_fits_of_wellFormed wf
  obtain ⟨-, byte'⟩ := packMove_fits_of_wellFormed wf'
  obtain ⟨fit, emits⟩ := packMoveResponse_of_succeeds byte rounds succeeds
  obtain ⟨fit', emits'⟩ := packMoveResponse_of_succeeds byte' rounds' (same ▸ succeeds)
  rw [same] at emits
  obtain ⟨sameDist, sameAngle, sameTime, sign, sameMode⟩ := moveClassBytes_inj (emits.bytes_unique emits' le_rfl)
  have started := (fit strict).tm_nonneg rounds
  have started' := (fit' strict).tm_nonneg rounds'
  obtain ⟨turn, low, high, -, short⟩ := fit strict
  obtain ⟨turn', low', high', -, short'⟩ := fit' strict
  exact ⟨by omega, degrees_unique_of_centirad_residue turn turn' sameAngle sign, by omega, sameMode⟩

end Sys2Proof.Machine
end

section
/-! TURN and MOVE: their own checks, then the general packer (43_motion_pack.md rules R160 to R162). -/

namespace Sys2Proof.Machine

/-- A speed is zero where its numerator is. -/
theorem portValue_eq_zero_iff {q : RatPort} (nonzero : q.den ≠ 0) : portValue q = 0 ↔ q.num = 0 := by
  rw [portValue, div_eq_zero_iff, or_iff_left (Nat.cast_ne_zero.mpr nonzero), Int.cast_eq_zero]

section turnResponse
variable (cfg : Params) {deg : Int} {q : RatPort}

theorem turnResponse_of_den_eq_zero (zero : q.den = 0) : turnResponse cfg deg q = raise .badOperand :=
  if_pos zero

variable (nonzero : q.den ≠ 0)
include nonzero

theorem turnResponse_of_rotation (beyond : 360 < |deg|) : turnResponse cfg deg q = raise .rotationLimitExceeded := by
  rw [turnResponse, if_neg nonzero, if_pos ((rotation_check_iff deg).mpr beyond)]

theorem turnResponse_zero : turnResponse cfg 0 q = emit .fragment [] := by
  rw [turnResponse, if_neg nonzero]
  rfl

variable (turns : deg ≠ 0) (turn : |deg| ≤ 360)
include turns turn

theorem turnResponse_of_zeroSpeed (still : q.num = 0) : turnResponse cfg deg q = raise .zeroSpeed := by
  rw [turnResponse, if_neg nonzero, if_neg (not_rotation_check turn), if_neg turns]
  exact if_pos ((portValue_eq_zero_iff nonzero).mpr still)

theorem turnResponse_eq_pack (moving : q.num ≠ 0) :
    turnResponse cfg deg q = pack cfg 0 deg |(deg : ℚ) / ((q.num : ℚ) / q.den)| 0x80 := by
  rw [turnResponse, if_neg nonzero, if_neg (not_rotation_check turn), if_neg turns, ← ratAbs_eq]
  exact if_neg ((portValue_eq_zero_iff nonzero).not.mpr moving)

end turnResponse

/-- Settles O18: the checks of TURN in their order, then the packer, to whose other checks a turn gives no cause. -/
theorem turnFollowsItsRule : Obligations.TurnFollowsItsRule := by
  refine ⟨fun req selects => decode_of_selectsOpsel selects ⟨rfl, rfl⟩, fun deg q s zero => ?_,
    fun deg q s nonzero beyond => ?_, fun q s nonzero => ?_, fun deg q s nonzero turns turn still => ?_,
    fun deg tm q s nonzero turns turn moving rounds strict late => ?_,
    fun deg c tm q s nonzero turns turn moving rounds nearest fit => ?_⟩
  all_goals refine ⟨_, exec_eq_accept (.turn _ q) s, ?_⟩; rw [responseOf]
  · rw [turnResponse_of_den_eq_zero _ zero]
    exact raise_spec .badOperand
  · rw [turnResponse_of_rotation _ nonzero beyond]
    exact raise_spec .rotationLimitExceeded
  · rw [turnResponse_zero _ nonzero]
    exact emit_spec .fragment [] (Nat.zero_le _) fun _ mem => absurd mem List.not_mem_nil
  · rw [turnResponse_of_zeroSpeed _ nonzero turns turn still]
    exact raise_spec .zeroSpeed
  · rw [turnResponse_eq_pack _ nonzero turns turn moving]
    exact pack_raises_range (.inl rfl) strict turn rounds (.inr (.inr (.inr late)))
  · rw [turnResponse_eq_pack _ nonzero turns turn moving]
    exact pack_emitsPayload (.inl rfl) (fitsS32_of_abs_le turn) (by decide) rounds nearest fun strict =>
      ⟨turn, by decide, by decide, abs_nonneg _, fit strict⟩

section moveResponse
variable (cfg : Params) {q : RatPort} (dist : Int) (noTurn : Bool)

theorem moveResponse_of_den_eq_zero (zero : q.den = 0) : moveResponse cfg dist q noTurn = raise .badOperand :=
  if_pos zero

theorem moveResponse_of_zeroSpeed (nonzero : q.den ≠ 0) (still : q.num = 0) :
    moveResponse cfg dist q noTurn = raise .zeroSpeed := by
  rw [moveResponse, if_neg nonzero]
  exact if_pos ((portValue_eq_zero_iff nonzero).mpr still)

theorem moveResponse_eq_pack (nonzero : q.den ≠ 0) (moving : q.num ≠ 0) :
    moveResponse cfg dist q noTurn =
      pack cfg dist 0 |(dist : ℚ) / abs ((q.num : ℚ) / q.den)| (moveMode dist noTurn) := by
  rw [moveResponse, if_neg nonzero, ← ratAbs_eq, ← ratAbs_eq]
  exact if_neg ((portValue_eq_zero_iff nonzero).not.mpr moving)

theorem moveMode_lt : moveMode dist noTurn < 256 := by
  unfold moveMode
  split <;> decide

end moveResponse

/-- Settles O19: the checks of MOVE in their order, then the packer at 0 degrees. -/
theorem moveFollowsItsRule : Obligations.MoveFollowsItsRule := by
  refine ⟨fun req selects => decode_of_selectsOpsel selects ⟨rfl, rfl, rfl⟩, fun dist q noTurn s zero => ?_,
    fun dist q noTurn s nonzero still => ?_, fun dist tm q noTurn s nonzero moving rounds strict out => ?_,
    fun dist tm q noTurn s nonzero moving rounds fit => ?_⟩
  all_goals refine ⟨_, exec_eq_accept (.move dist q noTurn) s, ?_⟩; rw [responseOf]
  · rw [moveResponse_of_den_eq_zero _ _ _ zero]
    exact raise_spec .badOperand
  · rw [moveResponse_of_zeroSpeed _ _ _ nonzero still]
    exact raise_spec .zeroSpeed
  · rw [moveResponse_eq_pack _ _ _ nonzero moving]
    exact pack_raises_range (.inr rfl) strict (by decide) rounds (out.imp_right (Or.imp_right .inr))
  · rw [moveResponse_eq_pack _ _ _ nonzero moving]
    refine pack_emitsPayload (.inr rfl) (by decide) (moveMode_lt dist noTurn) rounds ?_ fun strict => ?_
    · have nearest : NearestCentiradians 0 (centirad 0) := nearestCentiradians_centirad (by decide) (by decide)
      rwa [centirad_zero] at nearest
    · obtain ⟨low, high, short⟩ := fit strict
      exact ⟨by decide, low, high, abs_nonneg _, short⟩

/-- Where the response is of the move class, its eighth byte is the mode (43_motion_pack.md rule R162). -/
def CarriesMode (r : Response) (mode : Nat) : Prop := r.cmd = 2 → r.b7 = BitVec.ofNat 8 mode

/-- No fault is of the move class. -/
theorem raise_carriesMode (e : Status) (mode : Nat) : CarriesMode (raise e) mode :=
  fun moves => absurd moves (by decide : (0 : BitVec 2) ≠ 2)

/-- A check that raises keeps the eighth byte of what follows it. -/
theorem ite_raise_carriesMode {fails : Prop} [Decidable fails] {e : Status} {r : Response} {mode : Nat}
    (h : CarriesMode r mode) : CarriesMode (if fails then raise e else r) mode := by
  split
  · exact raise_carriesMode e mode
  · exact h

theorem pack_carriesMode (cfg : Params) (dist deg : Int) (secs : ℚ) (mode : Nat) :
    CarriesMode (pack cfg dist deg secs mode) mode := by
  obtain ⟨e, -, answer⟩ | ⟨-, answer⟩ := pack_cases cfg dist deg secs mode
  · rw [answer]
    exact raise_carriesMode e mode
  · rw [answer]
    exact fun _ => rfl

theorem turnResponse_carriesMode (cfg : Params) (deg : Int) (q : RatPort) :
    CarriesMode (turnResponse cfg deg q) 0x80 := by
  refine ite_raise_carriesMode (ite_raise_carriesMode ?_)
  split
  · exact fun moves => absurd moves (by decide : (0 : BitVec 2) ≠ 2)
  · exact ite_raise_carriesMode (pack_carriesMode _ _ _ _ _)

theorem moveResponse_carriesMode (cfg : Params) (dist : Int) (q : RatPort) (noTurn : Bool) :
    CarriesMode (moveResponse cfg dist q noTurn) (moveMode dist noTurn) :=
  ite_raise_carriesMode (ite_raise_carriesMode (pack_carriesMode _ _ _ _ _))

theorem packMoveResponse_carriesMode (cfg : Params) (dist deg : Int) (q : RatPort) (mode : Nat) :
    CarriesMode (packMoveResponse cfg dist deg q mode) mode :=
  ite_raise_carriesMode (pack_carriesMode _ _ _ _ _)

/-- A response of the move class is one of an operation of that class. -/
theorem commandClass_eq_move {cfg : Params} {i : Instr} (moves : (responseOf cfg i).cmd = 2) :
    commandClass i = .move := by
  obtain ⟨e, -, answer⟩ | ⟨bytes, -, answer⟩ := responseOf_raisesOrEmits cfg i
  · rw [answer] at moves
    exact absurd moves (by decide : (0 : BitVec 2) ≠ 2)
  · rw [answer] at moves
    change (commandClass i).code = 2 at moves
    cases cmd : commandClass i with
    | move => rfl
    | fragment | drive =>
      rw [cmd] at moves
      exact absurd moves (by decide)

theorem ofNat8_moveMode (dist : Int) (noTurn : Bool) :
    (BitVec.ofNat 8 (moveMode dist noTurn) = 0x81 ∨ BitVec.ofNat 8 (moveMode dist noTurn) = 0x80) ∧
      (BitVec.ofNat 8 (moveMode dist noTurn) = 0x81 ↔ noTurn = true ∧ dist < 0) := by
  unfold moveMode
  split
  next backwards => exact ⟨.inl rfl, fun _ => backwards, fun _ => rfl⟩
  next forwards => exact ⟨.inr rfl, fun same => absurd same (by decide), fun backwards => absurd backwards forwards⟩

/-- Settles O20: the three operations of the move class, each with the mode it gives the packer. -/
theorem eighthByteIsTheModeOfTheOperation : Obligations.EighthByteIsTheModeOfTheOperation := by
  intro cfg i wf moves
  have move := commandClass_eq_move moves
  cases i with
  | turn deg q => exact .inl ⟨deg, q, rfl, turnResponse_carriesMode cfg deg q moves⟩
  | move dist q noTurn =>
    refine .inr (.inl ⟨dist, q, noTurn, rfl, ?_⟩)
    rw [responseOf, moveResponse_carriesMode cfg dist q noTurn moves]
    exact ofNat8_moveMode dist noTurn
  | packMove dist deg q mode =>
    obtain ⟨-, byte⟩ := packMove_fits_of_wellFormed wf
    refine .inr (.inr ⟨dist, deg, q, mode, rfl, ?_⟩)
    rw [responseOf, packMoveResponse_carriesMode cfg dist deg q mode moves]
    exact Nat.mod_eq_of_lt byte
  | oneByte | twoByte | signedAngleByte | color | stop | drive | spin => cases move

end Sys2Proof.Machine
end

section
/-! The STATUS of every request is the code of its first fault (60_exceptions.md rules R209 and R211). -/

namespace Sys2Proof.Machine

/-- Settles O26: every outcome the block produces leaves a sound response. -/
theorem everyResponseIsSound : Obligations.EveryResponseIsSound := respond_sound

theorem RaisesCode.status_eq {r : Response} {code : Nat} (raises : RaisesCode r code) : r.status.toNat = code := by
  obtain ⟨status, -⟩ := raises
  exact status

/-- A fault of an operation is its code and nothing else. -/
theorem responseOf_raisesCode {cfg : Params} {i : Instr} {code : Nat} (status : (responseOf cfg i).status.toNat = code)
    (faults : code ≠ 0) : RaisesCode (responseOf cfg i) code := by
  obtain ⟨e, -, answer⟩ | ⟨bytes, -, answer⟩ := responseOf_raisesOrEmits cfg i
  · rw [answer] at status ⊢
    exact status ▸ raise_spec e
  · rw [answer] at status
    exact absurd status.symm faults

/-- A fault of a request is its code and nothing else, whether it selects an operation or none. -/
theorem respond_raisesCode {cfg : Params} {req : Request} {code : Nat} (status : (respond cfg req).status.toNat = code)
    (faults : code ≠ 0) : RaisesCode (respond cfg req) code := by
  cases decoded : decode req with
  | error e =>
    rw [respond_of_decode_error decoded] at status ⊢
    exact status ▸ raise_spec .illegalRequest
  | ok i =>
    rw [respond_of_decode_ok decoded] at status ⊢
    exact responseOf_raisesCode status faults

/-- A check that raises answers with its code, before any code of what follows it. -/
theorem status_ite_raise {fails fails' : Prop} [Decidable fails] [Decidable fails'] {e : Status} {r : Response}
    {first later : Nat} (same : fails ↔ fails') (code : e.code.toNat = first)
    (rest : ¬fails' → r.status.toNat = later) :
    (if fails then raise e else r).status.toNat = if fails' then first else later := by
  split_ifs with h h' h'
  · exact code
  · exact absurd (same.mp h) h'
  · exact absurd (same.mpr h') h
  · exact rest h'

/-- A request that selects an operation has the first fault of that operation. -/
theorem firstFaultOf_of_decode_ok {cfg : Params} {req : Request} {i : Instr} (h : decode req = .ok i) :
    firstFaultOf cfg req = firstFault cfg i := by
  simp only [firstFaultOf, h]

theorem firstFaultOf_of_decode_error {cfg : Params} {req : Request} {e : DecodeError} (h : decode req = .error e) :
    firstFaultOf cfg req = 6 := by
  simp only [firstFaultOf, h]

/-- The packer's own checks in their order: the conflict, the strict rotation, the three strict ranges. -/
theorem pack_status (cfg : Params) (dist deg : Int) (secs : ℚ) (mode : Nat) :
    (pack cfg dist deg secs mode).status.toNat = packerFault cfg dist deg secs := by
  have rounds : RoundsTo cfg.rounding (secs * 1000) (timeMeasure cfg.rounding secs) := roundsTo_roundRat ..
  unfold packerFault
  split_ifs with conflict rotation distance negative late
  · obtain ⟨moves, turns⟩ := conflict
    rw [pack_of_conflict cfg secs mode moves turns]
    rfl
  all_goals have free : dist = 0 ∨ deg = 0 := by omega
  · obtain ⟨strict, beyond⟩ := rotation
    exact (pack_raises_rotation free strict beyond).status_eq
  all_goals
    have turn (strict : cfg.strictFields = true) : |deg| ≤ 360 := not_lt.mp fun beyond => rotation ⟨strict, beyond⟩
  · obtain ⟨strict, out⟩ := distance
    exact (pack_raises_range free strict (turn strict) rounds (out.imp_right .inl)).status_eq
  · obtain ⟨strict, out⟩ := negative
    exact (pack_raises_range free strict (turn strict) rounds (.inr (.inr (.inl out)))).status_eq
  · obtain ⟨strict, out⟩ := late
    exact (pack_raises_range free strict (turn strict) rounds (.inr (.inr (.inr out)))).status_eq
  · have fit (strict : cfg.strictFields = true) : FieldsFit dist deg secs (timeMeasure cfg.rounding secs) := by
      simp only [strict, true_and, not_or, not_lt] at distance negative late
      obtain ⟨low, high⟩ := distance
      exact ⟨turn strict, low, high, negative, late⟩
    rw [pack_of_fieldsFit free fit]
    rfl

theorem turnResponse_status (cfg : Params) (deg : Int) (q : RatPort) :
    (turnResponse cfg deg q).status.toNat = firstFault cfg (.turn deg q) := by
  refine status_ite_raise Iff.rfl rfl fun nonzero => status_ite_raise (rotation_check_iff deg) rfl fun _ => ?_
  rw [apply_ite Response.status, apply_ite BitVec.toNat]
  congr 1
  refine status_ite_raise (portValue_eq_zero_iff nonzero) rfl fun _ => ?_
  rw [pack_status, ratAbs_eq]
  rfl

theorem moveResponse_status (cfg : Params) (dist : Int) (q : RatPort) (noTurn : Bool) :
    (moveResponse cfg dist q noTurn).status.toNat = firstFault cfg (.move dist q noTurn) := by
  refine status_ite_raise Iff.rfl rfl fun nonzero =>
    status_ite_raise (portValue_eq_zero_iff nonzero) rfl fun _ => ?_
  rw [pack_status, ratAbs_eq, ratAbs_eq, abs_div, abs_abs, ← abs_div]
  rfl

theorem responseOf_status (cfg : Params) (i : Instr) : (responseOf cfg i).status.toNat = firstFault cfg i := by
  cases i with
  | oneByte v | twoByte v | signedAngleByte v => exact status_ite_raise Iff.rfl rfl fun _ => rfl
  | color red green blue => exact status_ite_raise Iff.rfl rfl fun _ => rfl
  | stop => rfl
  | drive speed | spin speed => rfl
  | turn degrees speedDps => exact turnResponse_status cfg degrees speedDps
  | move distanceMm speedMmps noTurn => exact moveResponse_status cfg distanceMm speedMmps noTurn
  | packMove distanceMm degrees seconds modeByte =>
    exact status_ite_raise Iff.rfl rfl fun _ => pack_status cfg distanceMm degrees (portValue seconds) modeByte

/-- Settles O22: `ILLEGAL_REQUEST` comes before any operation is selected, then the operation's own checks. -/
theorem theFirstFaultInPriorityOrderIsRaised : Obligations.TheFirstFaultInPriorityOrderIsRaised := by
  intro cfg req
  cases decoded : decode req with
  | error e =>
    rw [respond_of_decode_error decoded, firstFaultOf_of_decode_error decoded]
    rfl
  | ok i =>
    rw [respond_of_decode_ok decoded, firstFaultOf_of_decode_ok decoded]
    exact responseOf_status cfg i

end Sys2Proof.Machine
end

section
/-! `ILLEGAL_REQUEST` and the reserved encodings (30_encoding.md rules R62 and R72, 60_exceptions.md rule R207). -/

namespace Sys2Proof.Machine

/-- The packer raises nothing beyond `ROTATION_LIMIT_EXCEEDED`. -/
theorem packerFault_le (cfg : Params) (dist deg : Int) (secs : ℚ) : packerFault cfg dist deg secs ≤ 3 := by
  unfold packerFault
  split_ifs <;> decide

/-- A check whose code is at most `BAD_OPERAND` keeps that bound on what follows it. -/
theorem ite_code_le {fails : Prop} [Decidable fails] {first later : Nat} (h : first ≤ 5) (h' : later ≤ 5) :
    (if fails then first else later) ≤ 5 := by
  split
  · exact h
  · exact h'

/-- No operation raises anything beyond `BAD_OPERAND`. -/
theorem firstFault_le (cfg : Params) (i : Instr) : firstFault cfg i ≤ 5 := by
  have packer (dist deg : Int) (secs : ℚ) : packerFault cfg dist deg secs ≤ 5 :=
    (packerFault_le cfg dist deg secs).trans (by decide)
  cases i with
  | stop | drive | spin => exact Nat.zero_le _
  | oneByte | twoByte | signedAngleByte | color => exact ite_code_le (by decide) (by decide)
  | turn =>
    exact ite_code_le (by decide) (ite_code_le (by decide) (ite_code_le (by decide)
      (ite_code_le (by decide) (packer ..))))
  | move => exact ite_code_le (by decide) (ite_code_le (by decide) (packer ..))
  | packMove => exact ite_code_le (by decide) (packer ..)

/-- A request selects an operation exactly where its reserved bits are 0 and `OPSEL` is a row of the table. -/
theorem exists_decode_eq_ok_iff (req : Request) :
    (∃ i, decode req = .ok i) ↔ req.ReservedZero ∧ 1 ≤ req.opsel.toNat ∧ req.opsel.toNat ≤ 0xA := by
  simp only [decode_eq_ok_iff]
  constructor
  · rintro ⟨i, reserved, opsel, -⟩
    exact ⟨reserved, opsel ▸ opselOf_pos i, opsel ▸ opselOf_le i⟩
  · rintro ⟨reserved, low, high⟩
    obtain ⟨i, opsel, carries⟩ := req.exists_carries low high
    exact ⟨i, reserved, opsel.symm, carries⟩

/-- The encodings that select no operation, by their fields. -/
theorem not_exists_decode_eq_ok_iff (req : Request) :
    (¬∃ i, decode req = .ok i) ↔
      req.rsv0 ≠ 0 ∨ req.rsv1 ≠ 0 ∨ req.rsv2 ≠ 0 ∨ req.opsel.toNat = 0x0 ∨ 0xB ≤ req.opsel.toNat := by
  rw [exists_decode_eq_ok_iff, req.reservedZero_iff, not_and_or, not_not, or_assoc, or_assoc]
  have opsel : ¬(1 ≤ req.opsel.toNat ∧ req.opsel.toNat ≤ 0xA) ↔ req.opsel.toNat = 0x0 ∨ 0xB ≤ req.opsel.toNat := by
    omega
  rw [opsel]

/-- Only a request that selects no operation has the STATUS of `ILLEGAL_REQUEST`. -/
theorem respond_status_eq_six_iff (cfg : Params) (req : Request) :
    (respond cfg req).status.toNat = 6 ↔ ¬∃ i, decode req = .ok i := by
  rw [theFirstFaultInPriorityOrderIsRaised cfg req]
  cases decoded : decode req with
  | error e => simp [firstFaultOf_of_decode_error decoded]
  | ok i =>
    have low := firstFault_le cfg i
    rw [firstFaultOf_of_decode_ok decoded]
    exact iff_of_false (by omega) (not_not.mpr ⟨i, rfl⟩)

/-- Settles O25: the reserved encodings are those that select no operation, and they alone have this STATUS. -/
theorem illegalRequestIsRaisedExactlyForReservedEncodings :
    Obligations.IllegalRequestIsRaisedExactlyForReservedEncodings := by
  intro cfg req
  have alone (status : (respond cfg req).status.toNat = 6) : RaisesCode (respond cfg req) 6 :=
    respond_raisesCode status (by decide)
  refine ⟨?_, alone⟩
  calc RaisesCode (respond cfg req) 6
      ↔ (respond cfg req).status.toNat = 6 := ⟨RaisesCode.status_eq, alone⟩
    _ ↔ ¬∃ i, decode req = .ok i := respond_status_eq_six_iff cfg req
    _ ↔ _ := not_exists_decode_eq_ok_iff req

end Sys2Proof.Machine
end

section
/-! The causes of the faults of single operations (60_exceptions.md rules R203, R204, R206 and R208). -/

namespace Sys2Proof.Machine

section packerFault
variable (cfg : Params) (dist deg : Int) (secs : ℚ)

theorem packerFault_eq_two_iff : packerFault cfg dist deg secs = 2 ↔ dist ≠ 0 ∧ deg ≠ 0 := by
  unfold packerFault
  split_ifs with conflict
  · exact iff_of_true rfl conflict
  all_goals exact iff_of_false (by decide) conflict

theorem packerFault_eq_three_iff :
    packerFault cfg dist deg secs = 3 ↔ (dist = 0 ∨ deg = 0) ∧ cfg.strictFields = true ∧ 360 < |deg| := by
  unfold packerFault
  split_ifs with conflict rotation
  · exact iff_of_false (by decide) fun ⟨free, _⟩ => by omega
  · exact iff_of_true rfl ⟨by omega, rotation⟩
  all_goals exact iff_of_false (by decide) fun ⟨_, beyond⟩ => rotation beyond

theorem packerFault_ne_four : packerFault cfg dist deg secs ≠ 4 :=
  ((packerFault_le cfg dist deg secs).trans_lt (by decide)).ne

theorem packerFault_ne_five : packerFault cfg dist deg secs ≠ 5 :=
  ((packerFault_le cfg dist deg secs).trans_lt (by decide)).ne

end packerFault

section firstFault
variable (cfg : Params) (i : Instr)

/-- TURN and MOVE give the packer one argument 0, so that only PACK_MOVE can conflict. -/
theorem firstFault_eq_two_iff :
    firstFault cfg i = 2 ↔ ∃ dist deg q mode, i = .packMove dist deg q mode ∧ q.den ≠ 0 ∧ dist ≠ 0 ∧ deg ≠ 0 := by
  cases i with
  | turn | move | packMove => simp [firstFault, ite_eq_iff, packerFault_eq_two_iff]
  | oneByte | twoByte | signedAngleByte | color | stop | drive | spin => simp [firstFault, ite_eq_iff]

/-- MOVE gives the packer 0 degrees; TURN has a rotation check of its own before it comes to the packer's. -/
theorem firstFault_eq_three_iff :
    firstFault cfg i = 3 ↔
      (∃ deg q, i = .turn deg q ∧ q.den ≠ 0 ∧ 360 < |deg|) ∨
      (∃ dist deg q mode, i = .packMove dist deg q mode ∧ q.den ≠ 0 ∧ (dist = 0 ∨ deg = 0) ∧
        cfg.strictFields = true ∧ 360 < |deg|) := by
  cases i with
  | turn deg q =>
    by_cases beyond : 360 < |deg| <;> simp [firstFault, ite_eq_iff, packerFault_eq_three_iff, beyond]
  | move | packMove => simp [firstFault, ite_eq_iff, packerFault_eq_three_iff]
  | oneByte | twoByte | signedAngleByte | color | stop | drive | spin => simp [firstFault, ite_eq_iff]

/-- The packer knows no speed: the check is TURN's and MOVE's own. -/
theorem firstFault_eq_four_iff :
    firstFault cfg i = 4 ↔
      (∃ deg q, i = .turn deg q ∧ q.den ≠ 0 ∧ deg ≠ 0 ∧ |deg| ≤ 360 ∧ q.num = 0) ∨
      (∃ dist q noTurn, i = .move dist q noTurn ∧ q.den ≠ 0 ∧ q.num = 0) := by
  cases i with
  | turn | move | packMove => simp [firstFault, ite_eq_iff, packerFault_ne_four, and_left_comm]
  | oneByte | twoByte | signedAngleByte | color | stop | drive | spin => simp [firstFault, ite_eq_iff]

/-- Each operation that reads a port checks its denominator before all else. -/
theorem firstFault_eq_five_iff :
    firstFault cfg i = 5 ↔
      (∃ q0 q1 q2, i = .color q0 q1 q2 ∧ (q0.den = 0 ∨ q1.den = 0 ∨ q2.den = 0)) ∨
      (∃ deg q, i = .turn deg q ∧ q.den = 0) ∨
      (∃ dist q noTurn, i = .move dist q noTurn ∧ q.den = 0) ∨
      (∃ dist deg q mode, i = .packMove dist deg q mode ∧ q.den = 0) := by
  cases i with
  | color => exact (Ne.ite_eq_left_iff (by decide)).trans (by simp)
  | turn | move | packMove => simp [firstFault, ite_eq_iff, packerFault_ne_five]
  | oneByte | twoByte | signedAngleByte | stop | drive | spin => simp [firstFault, ite_eq_iff]

end firstFault

/-- Settles O23: the causes of the three codes, as those of the first fault. -/
theorem conflictBadOperandAndZeroSpeedHaveExactlyTheirCauses :
    Obligations.ConflictBadOperandAndZeroSpeedHaveExactlyTheirCauses := by
  intro cfg i
  refine ⟨?_, ?_, ?_, fun code named status => responseOf_raisesCode status (by omega)⟩
  all_goals rw [responseOf_status]
  · exact firstFault_eq_two_iff cfg i
  · exact firstFault_eq_five_iff cfg i
  · exact firstFault_eq_four_iff cfg i

/-- Settles O24: the causes of the code, as those of the first fault. -/
theorem rotationLimitHasExactlyItsCauses : Obligations.RotationLimitHasExactlyItsCauses := by
  intro cfg i
  refine ⟨?_, fun status => responseOf_raisesCode status (by decide)⟩
  rw [responseOf_status]
  exact firstFault_eq_three_iff cfg i

end Sys2Proof.Machine
end

section
/-! Reset and the handshake obligations (70_reset_and_hazards.md rules R230 to R236). -/

namespace Sys2Proof.Machine

/-- A slot with `rst = 1` resets the block, whatever else stands on the pins. -/
theorem step_eq_resetSlot {s : State} (reset : s.pins.rst = true) : step s = .next s.resetSlot := by
  obtain ⟨_, answer⟩ | ⟨running, _⟩ | ⟨running, _⟩ | ⟨running, _⟩ := step_cases s
  · exact answer
  all_goals exact absurd (running.symm.trans reset) Bool.false_ne_true

/-- Settles O43: neither kind of slot writes the parameters. -/
theorem noStepChangesTheParameters : Obligations.NoStepChangesTheParameters := by
  intro s t answer
  obtain ⟨_, rfl⟩ | ⟨_, rfl⟩ := next_of_step answer
  · exact resetSlot_cfg s
  · rw [closeSlot_cfg, afterAccept_cfg]

theorem resetSlot_reqReady_iff {s : State} (legal : 1 ≤ s.cfg.maxOutstanding) :
    s.resetSlot.reqReady = true ↔ s.resetSlot.pins.rst = false := by
  rw [(resetSlot_inv legal).ready, resetSlot_pending, resetSlot_cfg]
  exact and_iff_left legal

/-- Settles O39: the step is the reset slot. -/
theorem resetSlotEmptiesTheInterface : Obligations.ResetSlotEmptiesTheInterface := by
  intro s reset legal
  exact ⟨s.resetSlot, step_eq_resetSlot reset, resetSlot_pending s, resetSlot_rspValid s, resetSlot_rsp s,
    resetSlot_reqReady_iff legal, resetSlot_delivered s, resetSlot_cfg s⟩

/-- A request is held over from a slot without reset in which it is offered and there is no room for it. -/
theorem heldRequest_eq_ite (s : State) : s.heldRequest =
    if s.pins.rst = false ∧ s.pins.reqValid = true ∧ s.reqReady = false then some s.pins.req else none := by
  have condition : (s.pins.reqValid && !s.pins.rst && !s.acceptEnabled) = true ↔
      s.pins.rst = false ∧ s.pins.reqValid = true ∧ s.reqReady = false := by
    simp only [Bool.and_eq_true, Bool.not_eq_true', ← Bool.not_eq_true s.acceptEnabled, acceptEnabled_iff,
      ← Bool.not_eq_true s.reqReady]
    tauto
  simp only [State.heldRequest, condition]

theorem heldRequest_eq_some_iff (s : State) : s.heldRequest = some s.pins.req ↔
    s.pins.rst = false ∧ s.pins.reqValid = true ∧ s.reqReady = false := by
  rw [heldRequest_eq_ite, Option.ite_none_right_eq_some]
  exact and_iff_left rfl

/-- The block ignores `REQ` in a slot with `rst = 1`, so none of it has to be held. -/
theorem heldRequest_of_reset {s : State} (reset : s.pins.rst = true) : s.heldRequest = none := by
  rw [heldRequest_eq_ite, reset]
  exact if_neg fun ⟨running, _⟩ => absurd running.symm Bool.false_ne_true

theorem heldRequest_eq_none_or_some (s : State) : s.heldRequest = none ∨ s.heldRequest = some s.pins.req := by
  rw [heldRequest_eq_ite]
  exact (ite_eq_or_eq ..).symm

@[simp] theorem afterAccept_heldRequest (s : State) : s.afterAccept.heldRequest = s.heldRequest := by
  unfold State.afterAccept; split <;> rfl

@[simp] theorem resetSlot_offered (s : State) : s.resetSlot.offered = s.heldRequest := rfl

/-- Whatever a slot does, the request to hold after it is the one it leaves offered. -/
theorem offered_of_step {s t : State} (answer : step s = .next t) : t.offered = s.heldRequest := by
  obtain ⟨_, rfl⟩ | ⟨_, rfl⟩ := next_of_step answer
  · exact resetSlot_offered s
  · rw [closeSlot_offered, afterAccept_heldRequest]

theorem handshakeBroken_iff (s : State) : s.handshakeBroken = true ↔
    ∃ q, s.offered = some q ∧ ¬(s.pins.reqValid = true ∧ s.pins.req = q) := by
  unfold State.handshakeBroken
  split
  next free => simp [free]
  next q held => simp [held, imp_iff_not_or]

theorem handshakeBroken_of_offered_eq_none {s : State} (free : s.offered = none) : s.handshakeBroken = false := by
  rw [State.handshakeBroken, free]

theorem step_eq_refused_of_broken {s : State} (running : s.pins.rst = false) (broken : s.handshakeBroken = true) :
    step s = .refused .handshakeBroken := by
  obtain ⟨reset, _⟩ | ⟨_, _, refusal⟩ | ⟨_, kept, _⟩ | ⟨_, kept, _⟩ := step_cases s
  · exact absurd (running.symm.trans reset) Bool.false_ne_true
  · exact refusal
  all_goals exact absurd (kept.symm.trans broken) Bool.false_ne_true

theorem exists_step_eq_next {s : State} (kept : s.pins.rst = false → s.handshakeBroken = false) :
    ∃ t, step s = .next t := by
  cases rst : s.pins.rst with
  | true => exact ⟨_, step_eq_resetSlot rst⟩
  | false => exact ⟨_, step_eq_closeSlot_afterAccept rst (kept rst)⟩

/-- Settles O42: the model's check is the obligation of the rule, and the request held over is what it checks next. -/
theorem onlyABrokenHandshakeIsRefused : Obligations.OnlyABrokenHandshakeIsRefused := by
  refine ⟨?_, ?_, ?_⟩
  · rintro s ⟨q, held, running, changed⟩
    exact step_eq_refused_of_broken running ((handshakeBroken_iff s).mpr ⟨q, held, changed⟩)
  · intro s kept
    refine exists_step_eq_next fun running => Bool.eq_false_iff.mpr fun broken => kept ?_
    obtain ⟨q, held, changed⟩ := (handshakeBroken_iff s).mp broken
    exact ⟨q, held, running, changed⟩
  · intro s t answer
    rw [offered_of_step answer]
    exact ⟨heldRequest_eq_some_iff s, heldRequest_eq_none_or_some s⟩

/-- In a sound state without reset the oldest waiting response is on offer. -/
theorem State.Inv.offers_head {s : State} (inv : s.Inv) (running : s.pins.rst = false) {r : Response}
    {rest : List Response} (waiting : s.pending = r :: rest) : s.rspValid = true ∧ s.rsp = r.word := by
  have valid : s.rspValid = true := inv.valid.mpr ⟨running, waiting ▸ List.cons_ne_nil r rest⟩
  exact ⟨valid, inv.head r rest valid waiting⟩

/-- A response the consumer does not take is still the oldest waiting one after the slot. -/
theorem State.Inv.slot_pending_of_not_taken {s : State} (inv : s.Inv) (stalled : s.pins.rspReady = false)
    {r : Response} {rest : List Response} (waiting : s.pending = r :: rest) :
    ∃ rest', s.afterAccept.closeSlot.pending = r :: rest' := by
  have undelivered : ¬s.deliverEnabled = true := fun delivers => by
    obtain ⟨_, _, taken⟩ := (deliverEnabled_iff s).mp delivers
    exact Bool.false_ne_true (stalled.symm.trans taken)
  rw [inv.slot_pending, if_neg undelivered, waiting]
  exact ⟨_, List.cons_append⟩

/-- Settles O41: the response on offer stays the head of `pending`, and the next state is sound. -/
theorem offeredResponseIsHeldUntilDelivered : Obligations.OfferedResponseIsHeldUntilDelivered := by
  intro s t inv offered stalled answer running
  obtain ⟨r, rest, waiting, onBus⟩ := inv.exists_head offered
  have next_inv : t.Inv := everyStepKeepsTheInterfaceSound s t inv answer
  obtain ⟨reset, _⟩ | ⟨_, rfl⟩ := next_of_step answer
  · obtain ⟨noReset, _⟩ := inv.valid.mp offered
    exact absurd (noReset.symm.trans reset) Bool.false_ne_true
  · obtain ⟨rest', still⟩ := inv.slot_pending_of_not_taken stalled waiting
    rw [onBus]
    exact next_inv.offers_head running still

theorem resetSlot_handshakeBroken {s : State} (reset : s.pins.rst = true) : s.resetSlot.handshakeBroken = false :=
  handshakeBroken_of_offered_eq_none (heldRequest_of_reset reset)

/-- In the first slot without reset the block has room and waits for a request. -/
theorem resetSlot_acceptEnabled {s : State} (legal : 1 ≤ s.cfg.maxOutstanding)
    (running : s.resetSlot.pins.rst = false) (valid : s.resetSlot.pins.reqValid = true) :
    s.resetSlot.acceptEnabled = true :=
  (acceptEnabled_iff _).mpr ⟨running, valid, (resetSlot_reqReady_iff legal).mpr running⟩

/-- A slot that finds nothing pending and accepts a request ends with that request's response alone. -/
theorem State.Inv.slot_pending_of_empty {s : State} (inv : s.Inv) (empty : s.pending = [])
    (accepts : s.acceptEnabled = true) : s.afterAccept.closeSlot.pending = [respond s.cfg s.pins.req] := by
  rw [inv.slot_pending, if_pos accepts, empty, List.tail_nil, ite_self, List.nil_append]

/-- Settles O40: the slot after reset is an accepting one from a sound state with nothing pending. -/
theorem firstRequestIsAcceptedRightAfterReset : Obligations.FirstRequestIsAcceptedRightAfterReset := by
  intro s t reset legal answer running valid
  obtain rfl : t = s.resetSlot := Host.Outcome.next.inj (answer.symm.trans (step_eq_resetSlot reset))
  have inv : s.resetSlot.Inv := resetSlot_inv legal
  have accepting := step_eq_closeSlot_afterAccept running (resetSlot_handshakeBroken reset)
  have alone := inv.slot_pending_of_empty (resetSlot_pending s) (resetSlot_acceptEnabled legal running valid)
  exact ⟨_, accepting, alone, fun later =>
    (everyStepKeepsTheInterfaceSound _ _ inv accepting).offers_head later alone⟩

end Sys2Proof.Machine
end
